-- ==== Sys2Proof/Word.lean ====
section
/-!
DEFINITION. The words, codes and names everything else is written in: the byte, the command word and the
64-bit bus (00_scope.md R8, 30_encoding.md R70), the two ports (60_exceptions.md R190), the ten sample
representations (00_scope.md R12, 30_encoding.md R74) and the eighteen wire formats (30_encoding.md R76).
-/

namespace Sys2Proof

/-- One byte of buffer memory or of a raw bus (R50, R70). -/
abbrev Byte := BitVec 8

/-- A 32-bit command word, bit 0 least significant (R8, R71). -/
abbrev Word := BitVec 32

/-- A 64-bit argument or result bus (R70, R72). -/
abbrev Bus := BitVec 64

/-- The two ports: P0 is driven by the callback, P1 by the lifecycle (R190). -/
inductive Port where
  | p0
  | p1
deriving DecidableEq, Repr, Inhabited

/-- The ten sample representations (R12). -/
inductive Rep where
  | u8
  | u16
  | u24
  | u32
  | i8
  | i16
  | i24
  | i32
  | f32
  | f64
deriving DecidableEq, Repr, Inhabited

/-- The eighteen wire formats a CONFIGURE accepts (R76). CFG_FORMAT can hold nothing else: its reset value, code 0,
is `u8`, and CONFIGURE loads only these (R23, R42 g). -/
inductive Format where
  | u8
  | u16le
  | u24le
  | u32le
  | i8
  | i16le
  | i24le
  | i32le
  | f32le
  | f64le
  | u16be
  | u24be
  | u32be
  | i16be
  | i24be
  | i32be
  | f32be
  | f64be
deriving DecidableEq, Repr, Inhabited

/-- A command as its opcode and fields name it (R73, R80), before it is named by its row of the opcode table.
Byte orders are `false` for little-endian and `true` for big-endian (field E, R71). -/
inductive Command where
  | cvt (src dst : Rep)
  | rawrd (r : Rep) (be : Bool)
  | rawwr (r : Rep) (be : Bool)
  | acquire
  | get (r : Rep)
  | set (r : Rep)
  | commit
  | area
  | configure
  | invStart
  | invEnd
  | rdreg
deriving DecidableEq, Repr, Inhabited

end Sys2Proof
end

