-- ==== Sys2Proof/Syntax.lean ====
section
/-!
DEFINITION. The command set: one constructor for each of the 167 rows of the opcode table, in the table's order.
A command word carries no operand (R81: "No operand is an immediate inside the command word"), so no constructor
has an argument: operands arrive on the buses of the transaction (30_encoding.md R70), which State holds.
-/

namespace Sys2Proof

/-- The 167 commands of spec/opcode_table.json (R73, R83). -/
inductive Instr where
  | cvtU8U8
  | cvtU8U16
  | cvtU8U24
  | cvtU8U32
  | cvtU8I8
  | cvtU8I16
  | cvtU8I24
  | cvtU8I32
  | cvtU8F32
  | cvtU8F64
  | cvtU16U8
  | cvtU16U16
  | cvtU16U24
  | cvtU16U32
  | cvtU16I8
  | cvtU16I16
  | cvtU16I24
  | cvtU16I32
  | cvtU16F32
  | cvtU16F64
  | cvtU24U8
  | cvtU24U16
  | cvtU24U24
  | cvtU24U32
  | cvtU24I8
  | cvtU24I16
  | cvtU24I24
  | cvtU24I32
  | cvtU24F32
  | cvtU24F64
  | cvtU32U8
  | cvtU32U16
  | cvtU32U24
  | cvtU32U32
  | cvtU32I8
  | cvtU32I16
  | cvtU32I24
  | cvtU32I32
  | cvtU32F32
  | cvtU32F64
  | cvtI8U8
  | cvtI8U16
  | cvtI8U24
  | cvtI8U32
  | cvtI8I8
  | cvtI8I16
  | cvtI8I24
  | cvtI8I32
  | cvtI8F32
  | cvtI8F64
  | cvtI16U8
  | cvtI16U16
  | cvtI16U24
  | cvtI16U32
  | cvtI16I8
  | cvtI16I16
  | cvtI16I24
  | cvtI16I32
  | cvtI16F32
  | cvtI16F64
  | cvtI24U8
  | cvtI24U16
  | cvtI24U24
  | cvtI24U32
  | cvtI24I8
  | cvtI24I16
  | cvtI24I24
  | cvtI24I32
  | cvtI24F32
  | cvtI24F64
  | cvtI32U8
  | cvtI32U16
  | cvtI32U24
  | cvtI32U32
  | cvtI32I8
  | cvtI32I16
  | cvtI32I24
  | cvtI32I32
  | cvtI32F32
  | cvtI32F64
  | cvtF32U8
  | cvtF32U16
  | cvtF32U24
  | cvtF32U32
  | cvtF32I8
  | cvtF32I16
  | cvtF32I24
  | cvtF32I32
  | cvtF32F32
  | cvtF32F64
  | cvtF64U8
  | cvtF64U16
  | cvtF64U24
  | cvtF64U32
  | cvtF64I8
  | cvtF64I16
  | cvtF64I24
  | cvtF64I32
  | cvtF64F32
  | cvtF64F64
  | rawrdU8Le
  | rawrdU8Be
  | rawrdU16Le
  | rawrdU16Be
  | rawrdU24Le
  | rawrdU24Be
  | rawrdU32Le
  | rawrdU32Be
  | rawrdI8Le
  | rawrdI8Be
  | rawrdI16Le
  | rawrdI16Be
  | rawrdI24Le
  | rawrdI24Be
  | rawrdI32Le
  | rawrdI32Be
  | rawrdF32Le
  | rawrdF32Be
  | rawrdF64Le
  | rawrdF64Be
  | rawwrU8Le
  | rawwrU8Be
  | rawwrU16Le
  | rawwrU16Be
  | rawwrU24Le
  | rawwrU24Be
  | rawwrU32Le
  | rawwrU32Be
  | rawwrI8Le
  | rawwrI8Be
  | rawwrI16Le
  | rawwrI16Be
  | rawwrI24Le
  | rawwrI24Be
  | rawwrI32Le
  | rawwrI32Be
  | rawwrF32Le
  | rawwrF32Be
  | rawwrF64Le
  | rawwrF64Be
  | acquire
  | getU8
  | getU16
  | getU24
  | getU32
  | getI8
  | getI16
  | getI24
  | getI32
  | getF32
  | getF64
  | setU8
  | setU16
  | setU24
  | setU32
  | setI8
  | setI16
  | setI24
  | setI32
  | setF32
  | setF64
  | commit
  | area
  | configure
  | invStart
  | invEnd
  | rdreg
deriving DecidableEq, Repr, Inhabited

end Sys2Proof
end

