-- ==== Sys2Proof/WellFormed.lean ====
section
/-!
DEFINITION. Well-formedness of a command word's fields (30_encoding.md R71, R75, R80, R82), written from the table of
R80, opcode by opcode; the decoder of Decode.lean is written from the pseudocode of R84 instead, and a lemma of
Laws/Decode.lean says that the two agree.
-/

namespace Sys2Proof

/-- The fields of the one word format C (R71): OPC = [31:28], RA = [27:24], RB = [23:20], E = [19], and the
reserved bits [18:0]. -/
structure Fields where
  opc : BitVec 4
  ra : BitVec 4
  rb : BitVec 4
  e : BitVec 1
  low : BitVec 19
deriving DecidableEq, Repr

/-- A representation field holds one of the ten codes of R74; 0xA to 0xF are reserved (R75). -/
def repCodeOk (c : BitVec 4) : Bool :=
  c.toNat ≤ 9

/-- What the table of R80 asks of RA, RB and E under each opcode, and the reserved opcodes of R82. -/
def Fields.usedAsTabled (f : Fields) : Bool :=
  match f.opc.toNat with
  | 0x0 => repCodeOk f.ra && repCodeOk f.rb && f.e == 0
  | 0x1 => repCodeOk f.ra && f.rb == 0
  | 0x2 => repCodeOk f.ra && f.rb == 0
  | 0x4 => repCodeOk f.ra && f.rb == 0 && f.e == 0
  | 0x5 => repCodeOk f.ra && f.rb == 0 && f.e == 0
  | 0x3 => f.ra == 0 && f.rb == 0 && f.e == 0
  | 0x6 => f.ra == 0 && f.rb == 0 && f.e == 0
  | 0x7 => f.ra == 0 && f.rb == 0 && f.e == 0
  | 0x8 => f.ra == 0 && f.rb == 0 && f.e == 0
  | 0x9 => f.ra == 0 && f.rb == 0 && f.e == 0
  | 0xA => f.ra == 0 && f.rb == 0 && f.e == 0
  | 0xB => f.ra == 0 && f.rb == 0 && f.e == 0
  | _ => false

/-- The fields spell one of the 167 commands: the reserved bits are zero (R71) and the other fields are as R80
asks. -/
def Fields.wellFormed (f : Fields) : Bool :=
  f.low == 0 && f.usedAsTabled

/-- A constructor of `Instr` has no operand field, so every term of the type is a command of the table: nothing is
left to check (R81, R83). -/
def Instr.wellFormed (_ : Instr) : Bool :=
  true

end Sys2Proof
end

