-- ==== Sys2Proof/Decode.lean ====
section
/-!
DEFINITION. The decoder (30_encoding.md R84), total on the 2^32 words (R83) and refusing by name, and after it the
encoder, from the same tables (R71, R73, R74, R80).
-/

namespace Sys2Proof

/-! ## The decoder -/

/-- Why a word decodes to no command (R82), in the order R84 checks. -/
inductive Illegal where
  | illegalOpcode
  | reservedBits
  | illegalRep
deriving DecidableEq, Repr

/-- What `Decode` of R84 answers. -/
inductive Decoded where
  | command (i : Instr)
  | illegal (c : Illegal)
deriving DecidableEq, Repr

/-- The fields of a word (R71). -/
def fieldsOf (w : Word) : Fields where
  opc := w.extractLsb' 28 4
  ra := w.extractLsb' 24 4
  rb := w.extractLsb' 20 4
  e := w.extractLsb' 19 1
  low := w.extractLsb' 0 19

/-- The representation a code names (R74); codes 0xA to 0xF name none (R75). -/
def repOfCode (c : BitVec 4) : Option Rep :=
  match c.toNat with
  | 0 => some .u8
  | 1 => some .u16
  | 2 => some .u24
  | 3 => some .u32
  | 4 => some .i8
  | 5 => some .i16
  | 6 => some .i24
  | 7 => some .i32
  | 8 => some .f32
  | 9 => some .f64
  | _ => none

/-- The opcodes that use RA: CVT, RAWRD, RAWWR, GET and SET (R80, R84). -/
def usesRA (opc : BitVec 4) : Bool :=
  opc == 0x0 || opc == 0x1 || opc == 0x2 || opc == 0x4 || opc == 0x5

/-- CVT alone uses RB (R80, R84). -/
def usesRB (opc : BitVec 4) : Bool :=
  opc == 0x0

/-- RAWRD and RAWWR alone use E (R80, R84). -/
def usesE (opc : BitVec 4) : Bool :=
  opc == 0x1 || opc == 0x2

/-- The command an opcode names, its fields already read (R73). -/
def commandOf (opc : BitVec 4) (a b : Rep) (be : Bool) : Option Command :=
  match opc.toNat with
  | 0x0 => some (.cvt a b)
  | 0x1 => some (.rawrd a be)
  | 0x2 => some (.rawwr a be)
  | 0x3 => some .acquire
  | 0x4 => some (.get a)
  | 0x5 => some (.set a)
  | 0x6 => some .commit
  | 0x7 => some .area
  | 0x8 => some .configure
  | 0x9 => some .invStart
  | 0xA => some .invEnd
  | 0xB => some .rdreg
  | _ => none

/-- The hundred CVT rows (R90). -/
def cvtInstr : Rep → Rep → Instr
  | .u8, .u8 => .cvtU8U8
  | .u8, .u16 => .cvtU8U16
  | .u8, .u24 => .cvtU8U24
  | .u8, .u32 => .cvtU8U32
  | .u8, .i8 => .cvtU8I8
  | .u8, .i16 => .cvtU8I16
  | .u8, .i24 => .cvtU8I24
  | .u8, .i32 => .cvtU8I32
  | .u8, .f32 => .cvtU8F32
  | .u8, .f64 => .cvtU8F64
  | .u16, .u8 => .cvtU16U8
  | .u16, .u16 => .cvtU16U16
  | .u16, .u24 => .cvtU16U24
  | .u16, .u32 => .cvtU16U32
  | .u16, .i8 => .cvtU16I8
  | .u16, .i16 => .cvtU16I16
  | .u16, .i24 => .cvtU16I24
  | .u16, .i32 => .cvtU16I32
  | .u16, .f32 => .cvtU16F32
  | .u16, .f64 => .cvtU16F64
  | .u24, .u8 => .cvtU24U8
  | .u24, .u16 => .cvtU24U16
  | .u24, .u24 => .cvtU24U24
  | .u24, .u32 => .cvtU24U32
  | .u24, .i8 => .cvtU24I8
  | .u24, .i16 => .cvtU24I16
  | .u24, .i24 => .cvtU24I24
  | .u24, .i32 => .cvtU24I32
  | .u24, .f32 => .cvtU24F32
  | .u24, .f64 => .cvtU24F64
  | .u32, .u8 => .cvtU32U8
  | .u32, .u16 => .cvtU32U16
  | .u32, .u24 => .cvtU32U24
  | .u32, .u32 => .cvtU32U32
  | .u32, .i8 => .cvtU32I8
  | .u32, .i16 => .cvtU32I16
  | .u32, .i24 => .cvtU32I24
  | .u32, .i32 => .cvtU32I32
  | .u32, .f32 => .cvtU32F32
  | .u32, .f64 => .cvtU32F64
  | .i8, .u8 => .cvtI8U8
  | .i8, .u16 => .cvtI8U16
  | .i8, .u24 => .cvtI8U24
  | .i8, .u32 => .cvtI8U32
  | .i8, .i8 => .cvtI8I8
  | .i8, .i16 => .cvtI8I16
  | .i8, .i24 => .cvtI8I24
  | .i8, .i32 => .cvtI8I32
  | .i8, .f32 => .cvtI8F32
  | .i8, .f64 => .cvtI8F64
  | .i16, .u8 => .cvtI16U8
  | .i16, .u16 => .cvtI16U16
  | .i16, .u24 => .cvtI16U24
  | .i16, .u32 => .cvtI16U32
  | .i16, .i8 => .cvtI16I8
  | .i16, .i16 => .cvtI16I16
  | .i16, .i24 => .cvtI16I24
  | .i16, .i32 => .cvtI16I32
  | .i16, .f32 => .cvtI16F32
  | .i16, .f64 => .cvtI16F64
  | .i24, .u8 => .cvtI24U8
  | .i24, .u16 => .cvtI24U16
  | .i24, .u24 => .cvtI24U24
  | .i24, .u32 => .cvtI24U32
  | .i24, .i8 => .cvtI24I8
  | .i24, .i16 => .cvtI24I16
  | .i24, .i24 => .cvtI24I24
  | .i24, .i32 => .cvtI24I32
  | .i24, .f32 => .cvtI24F32
  | .i24, .f64 => .cvtI24F64
  | .i32, .u8 => .cvtI32U8
  | .i32, .u16 => .cvtI32U16
  | .i32, .u24 => .cvtI32U24
  | .i32, .u32 => .cvtI32U32
  | .i32, .i8 => .cvtI32I8
  | .i32, .i16 => .cvtI32I16
  | .i32, .i24 => .cvtI32I24
  | .i32, .i32 => .cvtI32I32
  | .i32, .f32 => .cvtI32F32
  | .i32, .f64 => .cvtI32F64
  | .f32, .u8 => .cvtF32U8
  | .f32, .u16 => .cvtF32U16
  | .f32, .u24 => .cvtF32U24
  | .f32, .u32 => .cvtF32U32
  | .f32, .i8 => .cvtF32I8
  | .f32, .i16 => .cvtF32I16
  | .f32, .i24 => .cvtF32I24
  | .f32, .i32 => .cvtF32I32
  | .f32, .f32 => .cvtF32F32
  | .f32, .f64 => .cvtF32F64
  | .f64, .u8 => .cvtF64U8
  | .f64, .u16 => .cvtF64U16
  | .f64, .u24 => .cvtF64U24
  | .f64, .u32 => .cvtF64U32
  | .f64, .i8 => .cvtF64I8
  | .f64, .i16 => .cvtF64I16
  | .f64, .i24 => .cvtF64I24
  | .f64, .i32 => .cvtF64I32
  | .f64, .f32 => .cvtF64F32
  | .f64, .f64 => .cvtF64F64

/-- The twenty RAWRD rows (R122). -/
def rawrdInstr : Rep → Bool → Instr
  | .u8, false => .rawrdU8Le
  | .u8, true => .rawrdU8Be
  | .u16, false => .rawrdU16Le
  | .u16, true => .rawrdU16Be
  | .u24, false => .rawrdU24Le
  | .u24, true => .rawrdU24Be
  | .u32, false => .rawrdU32Le
  | .u32, true => .rawrdU32Be
  | .i8, false => .rawrdI8Le
  | .i8, true => .rawrdI8Be
  | .i16, false => .rawrdI16Le
  | .i16, true => .rawrdI16Be
  | .i24, false => .rawrdI24Le
  | .i24, true => .rawrdI24Be
  | .i32, false => .rawrdI32Le
  | .i32, true => .rawrdI32Be
  | .f32, false => .rawrdF32Le
  | .f32, true => .rawrdF32Be
  | .f64, false => .rawrdF64Le
  | .f64, true => .rawrdF64Be

/-- The twenty RAWWR rows (R123). -/
def rawwrInstr : Rep → Bool → Instr
  | .u8, false => .rawwrU8Le
  | .u8, true => .rawwrU8Be
  | .u16, false => .rawwrU16Le
  | .u16, true => .rawwrU16Be
  | .u24, false => .rawwrU24Le
  | .u24, true => .rawwrU24Be
  | .u32, false => .rawwrU32Le
  | .u32, true => .rawwrU32Be
  | .i8, false => .rawwrI8Le
  | .i8, true => .rawwrI8Be
  | .i16, false => .rawwrI16Le
  | .i16, true => .rawwrI16Be
  | .i24, false => .rawwrI24Le
  | .i24, true => .rawwrI24Be
  | .i32, false => .rawwrI32Le
  | .i32, true => .rawwrI32Be
  | .f32, false => .rawwrF32Le
  | .f32, true => .rawwrF32Be
  | .f64, false => .rawwrF64Le
  | .f64, true => .rawwrF64Be

/-- The ten GET rows (R139). -/
def getInstr : Rep → Instr
  | .u8 => .getU8
  | .u16 => .getU16
  | .u24 => .getU24
  | .u32 => .getU32
  | .i8 => .getI8
  | .i16 => .getI16
  | .i24 => .getI24
  | .i32 => .getI32
  | .f32 => .getF32
  | .f64 => .getF64

/-- The ten SET rows (R142). -/
def setInstr : Rep → Instr
  | .u8 => .setU8
  | .u16 => .setU16
  | .u24 => .setU24
  | .u32 => .setU32
  | .i8 => .setI8
  | .i16 => .setI16
  | .i24 => .setI24
  | .i32 => .setI32
  | .f32 => .setF32
  | .f64 => .setF64

/-- The row of the opcode table that a command stands in. -/
def instrOf : Command → Instr
  | .cvt s d => cvtInstr s d
  | .rawrd r be => rawrdInstr r be
  | .rawwr r be => rawwrInstr r be
  | .acquire => .acquire
  | .get r => getInstr r
  | .set r => setInstr r
  | .commit => .commit
  | .area => .area
  | .configure => .configure
  | .invStart => .invStart
  | .invEnd => .invEnd
  | .rdreg => .rdreg

/-- `Decode` of R84 on the fields of a word: the checks in their order, then the command named by the opcode. A
representation field that the opcode does not use is zero by then, and reads as u8 without being looked at. -/
def decodeFields (f : Fields) : Decoded :=
  if 0xC#4 ≤ f.opc then .illegal .illegalOpcode
  else if f.low != 0 || (!usesRA f.opc && f.ra != 0) || (!usesRB f.opc && f.rb != 0)
      || (!usesE f.opc && f.e != 0) then .illegal .reservedBits
  else
    match repOfCode f.ra, repOfCode f.rb with
    | some a, some b =>
      match commandOf f.opc a b (f.e == 1) with
      | some c => .command (instrOf c)
      | none => .illegal .illegalOpcode
    | _, _ => .illegal .illegalRep

/-- `Decode` of R84. -/
def decode (w : Word) : Decoded :=
  decodeFields (fieldsOf w)

/-- The instruction this decoder reads from a row's bits, numbered as the opcode table numbers them. A command is
one 32-bit word on CMD (R70, R83), so a number of more than 32 bits is no command word (log entry 18). -/
def decodeTableWord (nbits w : Nat) : Option Instr :=
  if w % 2 ^ nbits < 2 ^ 32 then
    match decode (BitVec.ofNat 32 (w % 2 ^ nbits)) with
    | .command i => some i
    | .illegal _ => none
  else none

/-! ## The encoder -/

/-- The code of a representation (R74). -/
def repCode : Rep → BitVec 4
  | .u8 => 0x0
  | .u16 => 0x1
  | .u24 => 0x2
  | .u32 => 0x3
  | .i8 => 0x4
  | .i16 => 0x5
  | .i24 => 0x6
  | .i32 => 0x7
  | .f32 => 0x8
  | .f64 => 0x9

/-- The command a row of the opcode table stands for. -/
def Instr.command : Instr → Command
  | .cvtU8U8 => .cvt .u8 .u8
  | .cvtU8U16 => .cvt .u8 .u16
  | .cvtU8U24 => .cvt .u8 .u24
  | .cvtU8U32 => .cvt .u8 .u32
  | .cvtU8I8 => .cvt .u8 .i8
  | .cvtU8I16 => .cvt .u8 .i16
  | .cvtU8I24 => .cvt .u8 .i24
  | .cvtU8I32 => .cvt .u8 .i32
  | .cvtU8F32 => .cvt .u8 .f32
  | .cvtU8F64 => .cvt .u8 .f64
  | .cvtU16U8 => .cvt .u16 .u8
  | .cvtU16U16 => .cvt .u16 .u16
  | .cvtU16U24 => .cvt .u16 .u24
  | .cvtU16U32 => .cvt .u16 .u32
  | .cvtU16I8 => .cvt .u16 .i8
  | .cvtU16I16 => .cvt .u16 .i16
  | .cvtU16I24 => .cvt .u16 .i24
  | .cvtU16I32 => .cvt .u16 .i32
  | .cvtU16F32 => .cvt .u16 .f32
  | .cvtU16F64 => .cvt .u16 .f64
  | .cvtU24U8 => .cvt .u24 .u8
  | .cvtU24U16 => .cvt .u24 .u16
  | .cvtU24U24 => .cvt .u24 .u24
  | .cvtU24U32 => .cvt .u24 .u32
  | .cvtU24I8 => .cvt .u24 .i8
  | .cvtU24I16 => .cvt .u24 .i16
  | .cvtU24I24 => .cvt .u24 .i24
  | .cvtU24I32 => .cvt .u24 .i32
  | .cvtU24F32 => .cvt .u24 .f32
  | .cvtU24F64 => .cvt .u24 .f64
  | .cvtU32U8 => .cvt .u32 .u8
  | .cvtU32U16 => .cvt .u32 .u16
  | .cvtU32U24 => .cvt .u32 .u24
  | .cvtU32U32 => .cvt .u32 .u32
  | .cvtU32I8 => .cvt .u32 .i8
  | .cvtU32I16 => .cvt .u32 .i16
  | .cvtU32I24 => .cvt .u32 .i24
  | .cvtU32I32 => .cvt .u32 .i32
  | .cvtU32F32 => .cvt .u32 .f32
  | .cvtU32F64 => .cvt .u32 .f64
  | .cvtI8U8 => .cvt .i8 .u8
  | .cvtI8U16 => .cvt .i8 .u16
  | .cvtI8U24 => .cvt .i8 .u24
  | .cvtI8U32 => .cvt .i8 .u32
  | .cvtI8I8 => .cvt .i8 .i8
  | .cvtI8I16 => .cvt .i8 .i16
  | .cvtI8I24 => .cvt .i8 .i24
  | .cvtI8I32 => .cvt .i8 .i32
  | .cvtI8F32 => .cvt .i8 .f32
  | .cvtI8F64 => .cvt .i8 .f64
  | .cvtI16U8 => .cvt .i16 .u8
  | .cvtI16U16 => .cvt .i16 .u16
  | .cvtI16U24 => .cvt .i16 .u24
  | .cvtI16U32 => .cvt .i16 .u32
  | .cvtI16I8 => .cvt .i16 .i8
  | .cvtI16I16 => .cvt .i16 .i16
  | .cvtI16I24 => .cvt .i16 .i24
  | .cvtI16I32 => .cvt .i16 .i32
  | .cvtI16F32 => .cvt .i16 .f32
  | .cvtI16F64 => .cvt .i16 .f64
  | .cvtI24U8 => .cvt .i24 .u8
  | .cvtI24U16 => .cvt .i24 .u16
  | .cvtI24U24 => .cvt .i24 .u24
  | .cvtI24U32 => .cvt .i24 .u32
  | .cvtI24I8 => .cvt .i24 .i8
  | .cvtI24I16 => .cvt .i24 .i16
  | .cvtI24I24 => .cvt .i24 .i24
  | .cvtI24I32 => .cvt .i24 .i32
  | .cvtI24F32 => .cvt .i24 .f32
  | .cvtI24F64 => .cvt .i24 .f64
  | .cvtI32U8 => .cvt .i32 .u8
  | .cvtI32U16 => .cvt .i32 .u16
  | .cvtI32U24 => .cvt .i32 .u24
  | .cvtI32U32 => .cvt .i32 .u32
  | .cvtI32I8 => .cvt .i32 .i8
  | .cvtI32I16 => .cvt .i32 .i16
  | .cvtI32I24 => .cvt .i32 .i24
  | .cvtI32I32 => .cvt .i32 .i32
  | .cvtI32F32 => .cvt .i32 .f32
  | .cvtI32F64 => .cvt .i32 .f64
  | .cvtF32U8 => .cvt .f32 .u8
  | .cvtF32U16 => .cvt .f32 .u16
  | .cvtF32U24 => .cvt .f32 .u24
  | .cvtF32U32 => .cvt .f32 .u32
  | .cvtF32I8 => .cvt .f32 .i8
  | .cvtF32I16 => .cvt .f32 .i16
  | .cvtF32I24 => .cvt .f32 .i24
  | .cvtF32I32 => .cvt .f32 .i32
  | .cvtF32F32 => .cvt .f32 .f32
  | .cvtF32F64 => .cvt .f32 .f64
  | .cvtF64U8 => .cvt .f64 .u8
  | .cvtF64U16 => .cvt .f64 .u16
  | .cvtF64U24 => .cvt .f64 .u24
  | .cvtF64U32 => .cvt .f64 .u32
  | .cvtF64I8 => .cvt .f64 .i8
  | .cvtF64I16 => .cvt .f64 .i16
  | .cvtF64I24 => .cvt .f64 .i24
  | .cvtF64I32 => .cvt .f64 .i32
  | .cvtF64F32 => .cvt .f64 .f32
  | .cvtF64F64 => .cvt .f64 .f64
  | .rawrdU8Le => .rawrd .u8 false
  | .rawrdU8Be => .rawrd .u8 true
  | .rawrdU16Le => .rawrd .u16 false
  | .rawrdU16Be => .rawrd .u16 true
  | .rawrdU24Le => .rawrd .u24 false
  | .rawrdU24Be => .rawrd .u24 true
  | .rawrdU32Le => .rawrd .u32 false
  | .rawrdU32Be => .rawrd .u32 true
  | .rawrdI8Le => .rawrd .i8 false
  | .rawrdI8Be => .rawrd .i8 true
  | .rawrdI16Le => .rawrd .i16 false
  | .rawrdI16Be => .rawrd .i16 true
  | .rawrdI24Le => .rawrd .i24 false
  | .rawrdI24Be => .rawrd .i24 true
  | .rawrdI32Le => .rawrd .i32 false
  | .rawrdI32Be => .rawrd .i32 true
  | .rawrdF32Le => .rawrd .f32 false
  | .rawrdF32Be => .rawrd .f32 true
  | .rawrdF64Le => .rawrd .f64 false
  | .rawrdF64Be => .rawrd .f64 true
  | .rawwrU8Le => .rawwr .u8 false
  | .rawwrU8Be => .rawwr .u8 true
  | .rawwrU16Le => .rawwr .u16 false
  | .rawwrU16Be => .rawwr .u16 true
  | .rawwrU24Le => .rawwr .u24 false
  | .rawwrU24Be => .rawwr .u24 true
  | .rawwrU32Le => .rawwr .u32 false
  | .rawwrU32Be => .rawwr .u32 true
  | .rawwrI8Le => .rawwr .i8 false
  | .rawwrI8Be => .rawwr .i8 true
  | .rawwrI16Le => .rawwr .i16 false
  | .rawwrI16Be => .rawwr .i16 true
  | .rawwrI24Le => .rawwr .i24 false
  | .rawwrI24Be => .rawwr .i24 true
  | .rawwrI32Le => .rawwr .i32 false
  | .rawwrI32Be => .rawwr .i32 true
  | .rawwrF32Le => .rawwr .f32 false
  | .rawwrF32Be => .rawwr .f32 true
  | .rawwrF64Le => .rawwr .f64 false
  | .rawwrF64Be => .rawwr .f64 true
  | .acquire => .acquire
  | .getU8 => .get .u8
  | .getU16 => .get .u16
  | .getU24 => .get .u24
  | .getU32 => .get .u32
  | .getI8 => .get .i8
  | .getI16 => .get .i16
  | .getI24 => .get .i24
  | .getI32 => .get .i32
  | .getF32 => .get .f32
  | .getF64 => .get .f64
  | .setU8 => .set .u8
  | .setU16 => .set .u16
  | .setU24 => .set .u24
  | .setU32 => .set .u32
  | .setI8 => .set .i8
  | .setI16 => .set .i16
  | .setI24 => .set .i24
  | .setI32 => .set .i32
  | .setF32 => .set .f32
  | .setF64 => .set .f64
  | .commit => .commit
  | .area => .area
  | .configure => .configure
  | .invStart => .invStart
  | .invEnd => .invEnd
  | .rdreg => .rdreg

/-- A command word's fields with the given opcode and RA, all others zero. -/
def plainFields (opc ra : BitVec 4) : Fields :=
  ⟨opc, ra, 0, 0, 0⟩

/-- The fields of a command's word (R73, R80, R86). -/
def Command.fields : Command → Fields
  | .cvt s d => ⟨0x0, repCode s, repCode d, 0, 0⟩
  | .rawrd r be => ⟨0x1, repCode r, 0, BitVec.ofBool be, 0⟩
  | .rawwr r be => ⟨0x2, repCode r, 0, BitVec.ofBool be, 0⟩
  | .acquire => plainFields 0x3 0
  | .get r => plainFields 0x4 (repCode r)
  | .set r => plainFields 0x5 (repCode r)
  | .commit => plainFields 0x6 0
  | .area => plainFields 0x7 0
  | .configure => plainFields 0x8 0
  | .invStart => plainFields 0x9 0
  | .invEnd => plainFields 0xA 0
  | .rdreg => plainFields 0xB 0

/-- The word with the given fields (R71: OPC is the most significant). -/
def Fields.word (f : Fields) : Word :=
  BitVec.ofNat 32
    (f.opc.toNat * 2 ^ 28 + f.ra.toNat * 2 ^ 24 + f.rb.toNat * 2 ^ 20 + f.e.toNat * 2 ^ 19 + f.low.toNat)

/-- The command word of an instruction (R71, R86). -/
def encode (i : Instr) : Word :=
  i.command.fields.word

end Sys2Proof
end

