-- ==== Sys2Proof/Config.lean ====
section
/-!
DEFINITION. The free values of the model: what the spec leaves to a draw (00_scope.md R7, R11; 93_implementation_defined.md
part 1). Each is an opaque constant without a body, so that no proof can know its value and a claim holds for every
value. The parameters of R7 that an instance fixes (MAX_CHANNELS, ADDR_W, s24_be_offset) are fields of State, and
FRAME_W is the width 32 of the registers that hold frame counts (D24).
-/

namespace Sys2Proof

/-- `nan_int_draw` (R7, R102, R107, D14): what a NaN float input converts to in an integer representation. Read at
the count of draws made so far; the integer is the draw's low W bits, so every integer of the representation is
possible. DESIGN CHOICE (log entry 5), unsafe only for a claim that compares two runs. -/
opaque Config.nanIntDraw : Nat → BitVec 64

/-- `nan_f_draw` (R7, R107, D17): what a NaN converts to between f32 and f64, read as `nanIntDraw` is.
DESIGN CHOICE (log entry 5), unsafe only for a claim that compares two runs. -/
opaque Config.nanFloatDraw : Nat → BitVec 64

/-- The byte the transport left at an address that the model's memory does not list (R62, D51): a draw for each
acquire point (the first argument counts them) and address. It does not change while a section is held (R59, R63). DESIGN
CHOICE (log entry 3), safe. -/
opaque Config.bufferByte : Nat → Nat → BitVec 8

/-- The area of a channel for which a grant's answer lists none (R137: areas are a free draw of the transport). The
arguments are the acquire point's number and the channel; the answer is the base and the stride. DESIGN
CHOICE (log entry 9), safe. -/
opaque Config.grantArea : Nat → Nat → Nat × BitVec 64

/-- Which of two transactions presented at once on P0 and P1 goes first (R190): `true` for P0. Read at the count
of draws made so far. DESIGN CHOICE (log entry 2), unsafe only for a claim that compares two runs. -/
opaque Config.p0First : Nat → Bool

/-- What AREA answers in 64 bits for a base of more than 64 bits (R147 zero-extends the base, and states nothing for an
ADDR_W above 64). DESIGN CHOICE (log entry 11), safe. -/
opaque Config.wideBase : Nat → BitVec 64

end Sys2Proof
end

