-- ==== Sys2Proof/Machine/State.lean ====
section
/-!
DEFINITION. The machine's state as plain data: every register of 10_state.md R20, the buffer memory of
20_memory.md R50 as the transport leaves it, and, marked as the model's own, what surrounds the block: the instance's
parameters, the transactions presented on its ports, and the response to the last one. `State.reset` is 10_state.md R45.
-/

namespace Sys2Proof.Machine

/-! ## What the block is told and what it answers -/

/-- What the transport answers to a grant or a commit (R137, R150). -/
inductive Answer where
  | ok
  | recoverable
  | fatal
deriving DecidableEq, Repr, Inhabited

/-- The status of a response (R39, R72). -/
inductive Status where
  | ok
  | recoverable
  | fatal
  | faulted
deriving DecidableEq, Repr, Inhabited

/-- A channel area: a base byte address and a stride in bytes, a 64-bit two's-complement pattern (R32). -/
structure Area where
  base : Nat
  stride : BitVec 64
deriving DecidableEq, Repr, Inhabited

/-- `size` addresses from `start` on: the pieces the predicate `Admitted` of R7 is held in. -/
structure Region where
  start : Nat
  size : Nat
deriving DecidableEq, Repr, Inhabited

/-- The transport's answer to `Transport.grant(n)` (R137), an input of the model: the status; the frame count it has
ready (the grant is at most the request, see `grantedFrames`); one area per channel (a channel the list does not reach
gets a free area, log entry 9); what is admitted while the section is held; and the footprint bytes the transport makes known (a byte
not listed is a free draw, R62). -/
structure Grant where
  status : Answer
  frames : Nat
  areas : List Area
  admits : List Region
  bytes : List Host.Cell
deriving DecidableEq, Repr, Inhabited

/-- One command transaction (R70) with the transport's answers to the one call its command may make, which are part
of the command's step (R190). `rawin` holds RAWIN[0] first. -/
structure Transaction where
  cmd : Word
  arg0 : Bus
  arg1 : Bus
  arg2 : Bus
  rawin : Vector Byte 8
  grant : Grant
  commit : Answer
deriving DecidableEq, Repr

/-- A transaction with every bus zero; its transport answers are OK, with no frame. -/
def Transaction.zero : Transaction :=
  ⟨0, 0, 0, 0, #v[0, 0, 0, 0, 0, 0, 0, 0], ⟨.ok, 0, [], [], []⟩, .ok⟩

/-- What happens to the block from outside, in order: a transaction on a port; two transactions presented at once, P0's
first in the pair, whose order is a draw (R190); the reset event (R200); the transport acting on its own memory (R43,
R50), which sets what is admitted and writes bytes. -/
inductive Event where
  | transaction (p : Port) (t : Transaction)
  | both (t0 t1 : Transaction)
  | reset
  | transport (admits : List Region) (writes : List Host.Cell)
deriving DecidableEq, Repr

/-- The response that ends a command (R72), with the port it leaves on. `rawout` holds RAWOUT[0] first. -/
structure Response where
  port : Port
  status : Status
  res0 : Bus
  res1 : Bus
  rawout : Vector Byte 8
  rawlen : Nat
deriving DecidableEq, Repr

/-! ## The causes of a fault -/

/-- The contract violations and malformed words of R182, each with a cause code (`Cause.code`, Machine/Flags.lean). -/
inductive Cause where
  | illegalOpcode
  | reservedBits
  | illegalRep
  | wrongPort
  | configLocked
  | illegalFormat
  | badChannelCount
  | notConfigured
  | invocationActive
  | badWindow
  | streamBroken
  | noInvocation
  | frameCountOutOfRange
  | doubleAcquire
  | notAcquired
  | channelOutOfRange
  | frameOutOfRange
  | noArea
deriving DecidableEq, Repr, Inhabited

/-! ## Where a step ends without a next state -/

/-- Why the model stops. The spec's own faults (R181) are not here: raising one is a next state with the fault record
written. -/
inductive Fault where
  /-- GET or SET at an address outside the space or not admitted: the command "has **no step**" (20_memory.md R55,
  R143, R180 d). Raised by every GET and SET. Safe: the spec gives the command no effect (log entry 6). -/
  | stuckAccess
  /-- GET, SET or AREA in a state whose area file holds no value although a section is acquired with frames granted.
  R33 and R42 rule this out in every reachable state, and `Sys2Proof.Safety.StateInv` states it. Safe: reached from no
  state a run of the block can reach (log entry 14). -/
  | areaAbsent
deriving DecidableEq, Repr

/-- Why the model has no meaning to run. -/
inductive Refusal where
  /-- An instruction whose arm of `exec` has no meaning. Safe. No arm of this model answers it. -/
  | notModelled (mnemonic : String)
deriving DecidableEq, Repr

/-! ## The state -/

/-- The parameters an instance of the block fixes (R7): no step changes them. Model's own fields: the spec takes them
as arguments of the model, and every statement about all states holds for all their values. DESIGN CHOICE (log entry
11), safe. -/
structure Params where
  /-- MAX_CHANNELS (D23, OPEN). -/
  maxChannels : Nat
  /-- ADDR_W (D20, OPEN). -/
  addrW : Nat
  /-- s24_be_offset (D18): 1, or 0 in a model built so. -/
  s24BeOffset : Nat
deriving DecidableEq, Repr

/-- CUR_STATE (R30). -/
inductive Cursor where
  | idle
  | acquired
deriving DecidableEq, Repr, Inhabited

/-- The state of one block instance and what surrounds it. -/
structure State where
  /-- CFG_FORMAT, 5 bits (R23), as the format its code names (log entry 15). -/
  cfgFormat : Format
  /-- CFG_LOCKED, 1 bit (R24). -/
  cfgLocked : Bool
  /-- CHANNELS (R25), 64 bits in the register map of R40. -/
  channels : BitVec 64
  /-- INV_ACTIVE, 1 bit (R28). -/
  invActive : Bool
  /-- FC_MIN, FRAME_W = 32 bits (R29). -/
  fcMin : BitVec 32
  /-- FC_MAX, FRAME_W = 32 bits (R29). -/
  fcMax : BitVec 32
  /-- CUR_STATE, 1 bit (R30). -/
  curState : Cursor
  /-- GRANTED, FRAME_W = 32 bits (R31). -/
  granted : BitVec 32
  /-- The area file AREA_BASE[c], AREA_STRIDE[c] (R32), one entry per channel; empty when it holds no value (R33). -/
  areas : List Area
  /-- COMMITTED_TOTAL, 64 bits (R34). -/
  committedTotal : BitVec 64
  /-- SHORTFALL, 1 bit (R35). -/
  shortfall : Bool
  /-- BROKEN, 1 bit, sticky (R36). -/
  broken : Bool
  /-- FAULT, 1 bit, sticky (R37). -/
  fault : Bool
  /-- FAULT_CAUSE, 8 bits (R37, R182). -/
  faultCause : BitVec 8
  /-- FAULT_WORD, 32 bits (R37). -/
  faultWord : Word
  /-- FAULT_PORT, 1 bit (R37). -/
  faultPort : Port
  /-- DISCARD_LAST, 2 bits (R38). -/
  discardLast : BitVec 2
  /-- DISCARD_COUNT, 32 bits, saturating (R38). -/
  discardCount : BitVec 32
  /-- Buffer memory (R50): the bytes known to differ from the transport's free draws, addresses strictly rising. -/
  mem : List Host.Cell
  /-- How many acquire points with a section have passed (R62): which draws an unlisted byte is. Model's own. -/
  epoch : Nat
  /-- The addresses the transport admits now: the predicate `Admitted` of R7. -/
  admitted : List Region
  /-- The instance's parameters (R7). Model's own. -/
  params : Params
  /-- How many draws have been made (R102, R107, R190). Model's own. -/
  draws : Nat
  /-- How many commands a reset has abandoned while they were stuck, and so without a response (R200, R215). Model's own
  (log entry 20). -/
  abandoned : Nat
  /-- What is still to happen to the block, in order (R190, R200). Model's own: the interface to the outside. -/
  inbox : List Event
  /-- The port of the transaction being performed (R70). Model's own: a transaction is no state of the block (R22). -/
  port : Port
  /-- The transaction being performed (R70). Model's own, written by each step before the command reads it. -/
  txn : Transaction
  /-- The response the last step gave, if it gave one (R72). Model's own: a response is no state of the block (R22). -/
  reply : Option Response
deriving DecidableEq, Repr

/-- The machine right after reset (R45, R200): every register at its value in the "reset" column of R40, the area
file without a value. What the spec gives no reset value for is the model's own or the transport's (log entry 12): the
example parameters of R7, no byte of memory known, nothing admitted, nothing presented. -/
def State.reset : State where
  cfgFormat := .u8
  cfgLocked := false
  channels := 0
  invActive := false
  fcMin := 0
  fcMax := 0
  curState := .idle
  granted := 0
  areas := []
  committedTotal := 0
  shortfall := false
  broken := false
  fault := false
  faultCause := 0
  faultWord := 0
  faultPort := .p0
  discardLast := 0
  discardCount := 0
  mem := []
  epoch := 0
  admitted := []
  params := ⟨2, 64, 1⟩
  draws := 0
  abandoned := 0
  inbox := []
  port := .p0
  txn := .zero
  reply := none

end Sys2Proof.Machine
end

