-- ==== Sys2Proof/Machine/Operands.lean ====
section
/-!
DEFINITION. The operand forms: representations and their widths (00_scope.md R12), typed values on the 64-bit buses
(30_encoding.md R78), raw byte windows (41_raw_serialization.md R120, R121; 30_encoding.md R79), wire formats (R76,
10_state.md R27), and the address of a sample (20_memory.md R53).

A typed value is held as its bit pattern, a natural number below 2^W (R9): two's complement for a signed
representation, the IEEE 754 pattern for a float.
-/

namespace Sys2Proof

/-! ## Representations (R12, R74) -/

/-- Bit width W(r) (R12). -/
def Rep.width : Rep → Nat
  | .u8 => 8
  | .u16 => 16
  | .u24 => 24
  | .u32 => 32
  | .i8 => 8
  | .i16 => 16
  | .i24 => 24
  | .i32 => 32
  | .f32 => 32
  | .f64 => 64

/-- Raw byte width RW(r) = W(r)/8 (R12). -/
def Rep.rawWidth (r : Rep) : Nat :=
  r.width / 8

/-- K(r) = signed (R12). -/
def Rep.isSigned : Rep → Bool
  | .i8 | .i16 | .i24 | .i32 => true
  | _ => false

/-- K(r) = float (R12). -/
def Rep.isFloat : Rep → Bool
  | .f32 | .f64 => true
  | _ => false

/-- MIN(r) of an integer representation (R12). -/
def Rep.minInt (r : Rep) : Int :=
  if r.isSigned then -2 ^ (r.width - 1) else 0

/-- MAX(r) of an integer representation (R12). -/
def Rep.maxInt (r : Rep) : Int :=
  if r.isSigned then 2 ^ (r.width - 1) - 1 else 2 ^ r.width - 1

/-- The integer a pattern of an integer representation stands for: unsigned, or two's complement (R9). -/
def Rep.intOf (r : Rep) (p : Nat) : Int :=
  if r.isSigned && decide (2 ^ (r.width - 1) ≤ p) then (p : Int) - 2 ^ r.width else p

/-- The W(r)-bit pattern of an integer (R9). -/
def Rep.patternOf (r : Rep) (v : Int) : Nat :=
  (v % 2 ^ r.width).toNat

/-! ## Typed values on a bus (R78) -/

/-- `Unbus(r, x)`: only the low W(r) bits are used (R78). -/
def unbus (r : Rep) (x : Bus) : Nat :=
  x.toNat % 2 ^ r.width

/-- `Bus(r, v)`: zero-extended for an unsigned value or a float pattern, sign-extended for a signed value (R78). -/
def bus (r : Rep) (p : Nat) : Bus :=
  BitVec.ofInt 64 (r.intOf p)

/-! ## Raw windows (R79, R120, R121) -/

/-- The number whose bytes are listed least significant first. -/
def leNat : List Byte → Nat
  | [] => 0
  | b :: bs => b.toNat + 256 * leNat bs

/-- The `n` low bytes of a number, least significant first. -/
def leBytes : Nat → Nat → List Byte
  | 0, _ => []
  | n + 1, p => BitVec.ofNat 8 p :: leBytes n (p / 256)

/-- `RawDecode(r, be, b)` (R120): `b` lists the window in address order. -/
def rawDecode (r : Rep) (be : Bool) (b : List Byte) : Nat :=
  leNat (if be then b.reverse else b) % 2 ^ r.width

/-- `RawEncode(r, be, v)` (R121): exactly RW(r) bytes, in address order. -/
def rawEncode (r : Rep) (be : Bool) (p : Nat) : List Byte :=
  if be then (leBytes r.rawWidth p).reverse else leBytes r.rawWidth p

/-- RAWIN[0..n−1] (R79). -/
def rawWindow (n : Nat) (raw : Vector Byte 8) : List Byte :=
  raw.toList.take n

/-- A window on the RAWOUT bus, zero past its end (R79). -/
def rawBus (b : List Byte) : Vector Byte 8 :=
  #v[b.getD 0 0, b.getD 1 0, b.getD 2 0, b.getD 3 0, b.getD 4 0, b.getD 5 0, b.getD 6 0, b.getD 7 0]

/-! ## Wire formats (R27, R76) -/

/-- The wire representation WREP = CFG_FORMAT[3:0] (R27, R76). -/
def Format.rep : Format → Rep
  | .u8 => .u8
  | .u16le | .u16be => .u16
  | .u24le | .u24be => .u24
  | .u32le | .u32be => .u32
  | .i8 => .i8
  | .i16le | .i16be => .i16
  | .i24le | .i24be => .i24
  | .i32le | .i32be => .i32
  | .f32le | .f32be => .f32
  | .f64le | .f64be => .f64

/-- The wire byte order WBE = CFG_FORMAT[4] (R27, R76). -/
def Format.be : Format → Bool
  | .u16be | .u24be | .u32be | .i16be | .i24be | .i32be | .f32be | .f64be => true
  | _ => false

/-- The 5-bit SampleFormat code (R76). -/
def Format.code : Format → BitVec 5
  | .u8 => 0x00
  | .u16le => 0x01
  | .u24le => 0x02
  | .u32le => 0x03
  | .i8 => 0x04
  | .i16le => 0x05
  | .i24le => 0x06
  | .i32le => 0x07
  | .f32le => 0x08
  | .f64le => 0x09
  | .u16be => 0x11
  | .u24be => 0x12
  | .u32be => 0x13
  | .i16be => 0x15
  | .i24be => 0x16
  | .i32be => 0x17
  | .f32be => 0x18
  | .f64be => 0x19

/-- The format an ARG0 value names, compared at full width (R77, R160): the fourteen other five-bit codes and every
value from 0x20 on name none. -/
def formatOfCode (x : Bus) : Option Format :=
  match x.toNat with
  | 0x00 => some .u8
  | 0x01 => some .u16le
  | 0x02 => some .u24le
  | 0x03 => some .u32le
  | 0x04 => some .i8
  | 0x05 => some .i16le
  | 0x06 => some .i24le
  | 0x07 => some .i32le
  | 0x08 => some .f32le
  | 0x09 => some .f64le
  | 0x11 => some .u16be
  | 0x12 => some .u24be
  | 0x13 => some .u32be
  | 0x15 => some .i16be
  | 0x16 => some .i24be
  | 0x17 => some .i32be
  | 0x18 => some .f32be
  | 0x19 => some .f64be
  | _ => none

/-- The two 24-bit formats per byte order: their slot is a 4-byte word (R27, R141). -/
def Rep.is24 : Rep → Bool
  | .u24 | .i24 => true
  | _ => false

/-- SlotWidth (R27). -/
def Format.slotWidth (f : Format) : Nat :=
  if f.rep.is24 then 4 else f.rep.rawWidth

/-- SlotOffset (R27): `s24_be_offset` for a big-endian 24-bit format, else 0. -/
def Format.slotOffset (f : Format) (p : Machine.Params) : Nat :=
  if f.rep.is24 && f.be then p.s24BeOffset else 0

/-! ## Addresses (R53) -/

namespace Machine

/-- The slot address `SA = AREA_BASE + f × AREA_STRIDE`, exact, the stride read as signed (R53). -/
def Area.slotAddress (a : Area) (f : Nat) : Int :=
  a.base + f * a.stride.toInt

/-- The window address `WA = SA + SlotOffset` (R53). -/
def State.windowAddress (s : State) (a : Area) (f : Nat) : Int :=
  a.slotAddress f + s.cfgFormat.slotOffset s.params

/-- The addresses of a window in ascending order (R57, R58): RW(WREP) bytes from WA on. -/
def State.windowAddresses (s : State) (a : Area) (f : Nat) : List Int :=
  (List.range s.cfgFormat.rep.rawWidth).map fun i => s.windowAddress a f + (i : Nat)

/-- The address lies in the footprint of the area's channel (R53): it is `SA(f) + k` for a granted frame `f` and a
slot byte `k`. For each `k` the one frame that could hold it is found by division, so that no frame is enumerated. -/
def Area.holds (a : Area) (granted slotWidth : Nat) (addr : Nat) : Bool :=
  (List.range slotWidth).any fun k =>
    let d : Int := (addr : Int) - (k : Nat) - a.base
    if a.stride.toInt = 0 then decide (0 < granted) && decide (d = 0)
    else decide (d % a.stride.toInt = 0) && decide (0 ≤ d / a.stride.toInt)
      && decide (d / a.stride.toInt < granted)

/-- The address lies in the footprint of a section (R53). -/
def inFootprint (areas : List Area) (granted slotWidth : Nat) (addr : Nat) : Bool :=
  areas.any fun a => a.holds granted slotWidth addr

/-- `Admitted(addr)` (R7). -/
def State.admits (s : State) (addr : Nat) : Bool :=
  s.admitted.any fun r => decide (r.start ≤ addr) && decide (addr < r.start + r.size)

/-- The byte at `x` may be accessed (R55): it lies in [0, 2^ADDR_W) and is admitted. -/
def State.accessible (s : State) (x : Int) : Bool :=
  decide (0 ≤ x) && decide (x < 2 ^ s.params.addrW) && s.admits x.toNat

end Machine

end Sys2Proof
end

