-- ==== Sys2Proof/Machine/Float.lean ====
section
/-!
DEFINITION. IEEE 754 binary32 and binary64 as far as the conversion engine needs them (00_scope.md R10, 40_conversion.md
R108): a pattern read as a number, an exact dyadic value rounded to nearest even, and binary64 addition,
subtraction and multiplication. There is one rounding behaviour and no flag or mode (R108).
-/

namespace Sys2Proof.Machine

/-- A floating-point format: `prec` significand bits, the weight 2^`qmin` of the least subnormal, and the exponent
field's width. -/
structure FloatFormat where
  prec : Nat
  qmin : Int
  expBits : Nat
deriving DecidableEq, Repr

/-- binary32 (R10). -/
def binary32 : FloatFormat :=
  ⟨24, -149, 8⟩

/-- binary64 (R10). -/
def binary64 : FloatFormat :=
  ⟨53, -1074, 11⟩

/-- The format of a float representation (R10, R126); asked of no other. -/
def floatFormat (r : Rep) : FloatFormat :=
  if r = .f32 then binary32 else binary64

/-- A floating-point datum: not a number, an infinity, or the finite number ±`mant`·2^`exp` (zeros keep a sign). -/
inductive Num where
  | nan
  | inf (neg : Bool)
  | fin (neg : Bool) (mant : Nat) (exp : Int)
deriving DecidableEq, Repr

/-- An integer's magnitude with a sign. -/
def signed (neg : Bool) (m : Nat) : Int :=
  if neg then -(m : Int) else m

/-- The exponent field with every bit set, in place: the magnitude pattern of an infinity. -/
def FloatFormat.infMag (t : FloatFormat) : Nat :=
  (2 ^ t.expBits - 1) * 2 ^ (t.prec - 1)

/-- The pattern of a sign and a magnitude. -/
def FloatFormat.withSign (t : FloatFormat) (neg : Bool) (mag : Nat) : Nat :=
  if neg then 2 ^ (t.prec - 1 + t.expBits) + mag else mag

/-- A pattern's magnitude: all its bits but the sign. -/
def FloatFormat.magOf (t : FloatFormat) (p : Nat) : Nat :=
  p % 2 ^ (t.prec - 1 + t.expBits)

/-- A pattern's sign bit. -/
def FloatFormat.negOf (t : FloatFormat) (p : Nat) : Bool :=
  p / 2 ^ (t.prec - 1 + t.expBits) % 2 == 1

/-- The datum a pattern stands for (R10). -/
def FloatFormat.num (t : FloatFormat) (p : Nat) : Num :=
  let frac := t.magOf p % 2 ^ (t.prec - 1)
  let ex := t.magOf p / 2 ^ (t.prec - 1)
  if ex = 2 ^ t.expBits - 1 then
    if frac = 0 then .inf (t.negOf p) else .nan
  else if ex = 0 then .fin (t.negOf p) frac t.qmin
  else .fin (t.negOf p) (2 ^ (t.prec - 1) + frac) (t.qmin + ((ex - 1 : Nat) : Int))

/-- `m / 2^k` rounded to the nearest integer, ties to even. -/
def divNearestEven (m k : Nat) : Nat :=
  let q := m / 2 ^ k
  let r := m % 2 ^ k
  if 2 ^ k < 2 * r || (2 ^ k = 2 * r && q % 2 = 1) then q + 1 else q

/-- `m·2^j` for any integer `j`, rounded to the nearest integer, ties to even. -/
def scaleNearestEven (m : Nat) (j : Int) : Nat :=
  if 0 ≤ j then m * 2 ^ j.toNat else divNearestEven m (-j).toNat

/-- The weight exponent of the last significand bit to which `m·2^e`, `m` not zero, is rounded: `prec` bits are kept,
fewer where that would go below the least subnormal (gradual underflow, R10). -/
def FloatFormat.quantum (t : FloatFormat) (m : Nat) (e : Int) : Int :=
  max ((Nat.log2 m : Int) + e - (t.prec - 1 : Nat)) t.qmin

/-- The magnitude pattern of `m·2^e` rounded to nearest even, with overflow to infinity (R10). The significand's
leading bit and a carry out of it both count into the exponent field, because the field stands right above. -/
def FloatFormat.roundMag (t : FloatFormat) (m : Nat) (e : Int) : Nat :=
  if m = 0 then 0
  else
    let q := t.quantum m e
    min ((q - t.qmin).toNat * 2 ^ (t.prec - 1) + scaleNearestEven m (e - q)) t.infMag

/-- `RNE32` or `RNE64` of ±`m·2^e` as a pattern (R10). -/
def FloatFormat.round (t : FloatFormat) (neg : Bool) (m : Nat) (e : Int) : Nat :=
  t.withSign neg (t.roundMag m e)

/-- `RNE64` as a datum. -/
def round64 (neg : Bool) (m : Nat) (e : Int) : Num :=
  binary64.num (binary64.round neg m e)

/-- The binary64 datum of an integer (R101: "exact" for every integer the mapping uses). -/
def numOfInt (v : Int) : Num :=
  round64 (decide (v < 0)) v.natAbs 0

/-! ## Binary64 arithmetic (R10) -/

/-- The sign changed. -/
def Num.neg : Num → Num
  | .nan => .nan
  | .inf n => .inf (!n)
  | .fin n m e => .fin (!n) m e

/-- `a +64 b`: the exact sum rounded once; an exact zero is +0 unless both operands are −0. -/
def Num.add : Num → Num → Num
  | .nan, _ => .nan
  | _, .nan => .nan
  | .inf a, .inf b => if a = b then .inf a else .nan
  | .inf a, .fin _ _ _ => .inf a
  | .fin _ _ _, .inf b => .inf b
  | .fin n1 m1 e1, .fin n2 m2 e2 =>
    let e := min e1 e2
    let v := signed n1 (m1 * 2 ^ (e1 - e).toNat) + signed n2 (m2 * 2 ^ (e2 - e).toNat)
    if v = 0 then round64 (n1 && n2) 0 0 else round64 (decide (v < 0)) v.natAbs e

/-- `a −64 b`. -/
def Num.sub (a b : Num) : Num :=
  a.add b.neg

/-- `a ×64 b`: the exact product rounded once. -/
def Num.mul : Num → Num → Num
  | .nan, _ => .nan
  | _, .nan => .nan
  | .inf a, .inf b => .inf (a != b)
  | .inf a, .fin n m _ => if m = 0 then .nan else .inf (a != n)
  | .fin n m _, .inf b => if m = 0 then .nan else .inf (n != b)
  | .fin n1 m1 e1, .fin n2 m2 e2 => round64 (n1 != n2) (m1 * m2) (e1 + e2)

/-! ## Comparison and truncation -/

/-- The finite number ±`mant`·2^`exp` is below `n·2^k`. -/
def finLt (neg : Bool) (mant : Nat) (exp : Int) (n : Int) (k : Int) : Bool :=
  let e := min exp k
  decide (signed neg mant * 2 ^ (exp - e).toNat < n * 2 ^ (k - e).toNat)

/-- The finite number ±`mant`·2^`exp` is above `n·2^k`. -/
def finGt (neg : Bool) (mant : Nat) (exp : Int) (n : Int) (k : Int) : Bool :=
  let e := min exp k
  decide (n * 2 ^ (k - e).toNat < signed neg mant * 2 ^ (exp - e).toNat)

/-- `x < n·2^k`; false of a NaN. -/
def Num.lt (x : Num) (n k : Int) : Bool :=
  match x with
  | .nan => false
  | .inf a => a
  | .fin s m e => finLt s m e n k

/-- `x > n·2^k`; false of a NaN. -/
def Num.gt (x : Num) (n k : Int) : Bool :=
  match x with
  | .nan => false
  | .inf a => !a
  | .fin s m e => finGt s m e n k

/-- `trunc` (R10): the integer part, rounded toward zero; none for what has no integer part. -/
def Num.trunc : Num → Option Int
  | .nan => none
  | .inf _ => none
  | .fin n m e => some (signed n (if 0 ≤ e then m * 2 ^ e.toNat else m / 2 ^ (-e).toNat))

end Sys2Proof.Machine
end

