-- ==== Sys2Proof/Machine/Conv.lean ====
section
/-!
DEFINITION. The conversion function `Conv(s, d, v)` (40_conversion.md R91 to R107), which CVT, GET and SET share.
Values are patterns (Machine/Operands.lean).
-/

namespace Sys2Proof.Machine

/-- The nine classes of R91. -/
inductive ConvClass where
  | ident
  | signFlip
  | widen
  | narrow
  | crossWiden
  | crossNarrow
  | intToFloat
  | floatToInt
  | floatToFloat
deriving DecidableEq, Repr

/-- The class of a pair, by kind and width (R91). -/
def convClass (s d : Rep) : ConvClass :=
  if s = d then .ident
  else if s.isFloat then (if d.isFloat then .floatToFloat else .floatToInt)
  else if d.isFloat then .intToFloat
  else if s.isSigned = d.isSigned then (if s.width < d.width then .widen else .narrow)
  else if s.width = d.width then .signFlip
  else if s.width < d.width then .crossWiden
  else .crossNarrow

/-! ## Integer to integer (R93) -/

/-- The half-range offset with wraparound at width `w` (R94), which is `P XOR 2^(w−1)` (lemma `flipSign_eq_xor`). -/
def flipSign (w p : Nat) : Nat :=
  (p + 2 ^ (w - 1)) % 2 ^ w

/-- `IntConv(s, d, v)` (R93): the sign flip at the source width where the kinds differ, then the left shift that
widens (R95), or the top bits that narrowing keeps (R96). -/
def intConv (s d : Rep) (v : Nat) : Nat :=
  let p := if s.isSigned = d.isSigned then v else flipSign s.width v
  if s.width < d.width then p * 2 ^ (d.width - s.width)
  else p / 2 ^ (s.width - d.width)

/-! ## The float mapping (R100 to R104) -/

/-- The constant `n·2^k` as a binary64 datum. -/
def numOf (n : Nat) (k : Int) : Num :=
  round64 false n k

/-- `FloatToInt` (R101) on the binary64 value of the input: `x = 0.5 × ((v+1)×(max+1) + (1−v)×min)`, each operation
rounded once in this order, then clamped, then truncated. No integer comes of a NaN (R102); the formula makes none
from a finite value. -/
def floatToInt (d : Rep) (w : Num) : Option Int :=
  match w with
  | .nan => none
  | .inf neg => some (if neg then d.minInt else d.maxInt)
  | .fin _ _ _ =>
    let t1 := w.add (numOf 1 0)
    let t2 := numOfInt (d.maxInt + 1)
    let t3 := t1.mul t2
    let t4 := (numOf 1 0).sub w
    let t5 := t4.mul (numOfInt d.minInt)
    let t6 := t3.add t5
    let x := (numOf 1 (-1)).mul t6
    let x := if x.lt d.minInt 0 then numOfInt d.minInt else x
    let x := if x.gt d.maxInt 0 then numOfInt d.maxInt else x
    x.trunc

/-- `IntToFloat` (R103): `q = (2x − (max+1) − min) / ((max+1) − min)`, whose denominator is 2^W, rounded once. -/
def intToFloat (s d : Rep) (v : Nat) : Nat :=
  let n := 2 * s.intOf v - (s.maxInt + 1) - s.minInt
  (floatFormat d).round (decide (n < 0)) n.natAbs (-(s.width : Int))

/-! ## Float to float (R105, R106) -/

/-- FLT_MAX's magnitude pattern in binary32 (R10). -/
def fltMaxMag : Nat :=
  0x7F7FFFFF

/-- f32 → f64 (R105): the binary64 value equal to it; none for a NaN. -/
def f32ToF64 (v : Nat) : Option Nat :=
  match binary32.num v with
  | .nan => none
  | .inf neg => some (binary64.withSign neg binary64.infMag)
  | .fin neg m e => some (binary64.round neg m e)

/-- f64 → f32 (R106): clamped to ±FLT_MAX = ±(2^24 − 1)·2^104, infinities included, then rounded; none for a NaN. -/
def f64ToF32 (v : Nat) : Option Nat :=
  match binary64.num v with
  | .nan => none
  | .inf neg => some (binary32.withSign neg fltMaxMag)
  | .fin neg m e =>
    if finGt neg m e (2 ^ 24 - 1) 104 then some (binary32.withSign false fltMaxMag)
    else if finLt neg m e (-(2 ^ 24 - 1)) 104 then some (binary32.withSign true fltMaxMag)
    else some (binary32.round neg m e)

/-! ## Conv -/

/-- `Conv(s, d, v)` where the spec gives a value (R91); none where the result is a draw, a NaN converted to an integer
or to the other float (R107). -/
def convFixed (s d : Rep) (v : Nat) : Option Nat :=
  match convClass s d with
  | .ident => some v
  | .signFlip | .widen | .narrow | .crossWiden | .crossNarrow => some (intConv s d v)
  | .intToFloat => some (intToFloat s d v)
  | .floatToInt => (floatToInt d ((floatFormat s).num v)).map d.patternOf
  | .floatToFloat => if s = .f32 then f32ToF64 v else f64ToF32 v

/-- The draw of R107 for a destination, the `k`-th of the run: any integer of the range, any binary32 pattern, any
binary64 NaN (a pattern that is no NaN is made one by setting the exponent field and the quiet bit, so that every NaN
is possible and nothing else). -/
def nanDraw (d : Rep) (k : Nat) : Nat :=
  match d with
  | .f32 => (Config.nanFloatDraw k).toNat % 2 ^ 32
  | .f64 =>
    if binary64.num (Config.nanFloatDraw k).toNat = .nan then (Config.nanFloatDraw k).toNat
    else (Config.nanFloatDraw k ||| 0x7FF8000000000000#64).toNat
  | _ => (Config.nanIntDraw k).toNat % 2 ^ d.width

/-- `Conv(s, d, v)` (R91), its draw being the `k`-th of the run. -/
def conv (s d : Rep) (v : Nat) (k : Nat) : Nat :=
  (convFixed s d v).getD (nanDraw d k)

/-- How many draws `Conv(s, d, v)` makes: one for a NaN of R107, else none. -/
def convDraws (s d : Rep) (v : Nat) : Nat :=
  if (convFixed s d v).isNone then 1 else 0

end Sys2Proof.Machine
end

