-- ==== Sys2Proof/Machine/Flags.lean ====
section
/-!
DEFINITION. The block keeps no condition flags (10_state.md R39). What stands here is what it has in their place: the
status codes (R39, R72), the cause codes (60_exceptions.md R182), the one-bit conditions and the saturating counters
(R34, R35, R38).
-/

namespace Sys2Proof.Machine

/-- STATUS as its two bits (R72). -/
def Status.code : Status → BitVec 2
  | .ok => 0
  | .recoverable => 1
  | .fatal => 2
  | .faulted => 3

/-- A transport answer as the status that reports it (R136, R146). -/
def Answer.status : Answer → Status
  | .ok => .ok
  | .recoverable => .recoverable
  | .fatal => .fatal

/-- FAULT_CAUSE codes (R182). -/
def Cause.code : Cause → BitVec 8
  | .illegalOpcode => 0x01
  | .reservedBits => 0x02
  | .illegalRep => 0x03
  | .wrongPort => 0x04
  | .configLocked => 0x05
  | .illegalFormat => 0x06
  | .badChannelCount => 0x07
  | .notConfigured => 0x08
  | .invocationActive => 0x09
  | .badWindow => 0x0A
  | .streamBroken => 0x0B
  | .noInvocation => 0x0C
  | .frameCountOutOfRange => 0x0D
  | .doubleAcquire => 0x0E
  | .notAcquired => 0x0F
  | .channelOutOfRange => 0x10
  | .frameOutOfRange => 0x11
  | .noArea => 0x12

/-- FAULT_PORT's bit (R40): 0 for P0, 1 for P1. -/
def portBit : Port → Bool
  | .p0 => false
  | .p1 => true

/-- COMMITTED_TOTAL plus a section's frames, saturating at 2^64 − 1 (R34, R145). -/
def addCommitted (total : BitVec 64) (g : BitVec 32) : BitVec 64 :=
  BitVec.ofNat 64 (min (total.toNat + g.toNat) (2 ^ 64 - 1))

/-- DISCARD_COUNT plus one, saturating at 2^32 − 1 (R38, R165). -/
def bumpDiscards (n : BitVec 32) : BitVec 32 :=
  BitVec.ofNat 32 (min (n.toNat + 1) (2 ^ 32 - 1))

/-- SHORTFALL (R35, R167): fewer frames were committed than FC_MIN. -/
def shortOf (total : BitVec 64) (fcMin : BitVec 32) : Bool :=
  decide (total.toNat < fcMin.toNat)

/-- A one-bit field at bit `k` of a register (R40). -/
def bitAt (b : Bool) (k : Nat) : Bus :=
  (BitVec.ofBool b).setWidth 64 <<< k

end Sys2Proof.Machine
end

