-- ==== Sys2Proof/Machine/Ops.lean ====
section
/-!
DEFINITION. The named operations every meaning is made of: buffer memory (20_memory.md), ending a command with a
response (30_encoding.md R72), raising a fault (60_exceptions.md R181, the block's one exception entry; R188: there is no
handler and no return, the way out is the reset event), the port and refusal checks (R183, R184, R191), the grant
(42_buffer_access.md R132, R137) and the release of a section (R145), the reset event (70_reset_and_hazards.md R200), and
what a step does with an event before a command runs.
-/

namespace Sys2Proof.Machine

/-! ## Buffer memory (R50, R62)

The list holds, at strictly rising addresses, the bytes the model knows: those a SET wrote or the transport made known.
An unlisted address reads as no value here, which is never the value of an entry, so that equal memories are equal
lists. What GET reads there is a free draw (`State.readByte`). -/

/-- The byte the list holds at an address, if it lists one. -/
def Memory.read : List Host.Cell → Nat → Option Byte
  | [], _ => none
  | (k, b) :: m, a => if k = a then some b else Memory.read m a

/-- The list with a byte written: an entry changed, or put in its place. -/
def Memory.write : List Host.Cell → Nat → Byte → List Host.Cell
  | [], a, b => [(a, b)]
  | (k, c) :: m, a, b =>
    if a < k then (a, b) :: (k, c) :: m
    else if a = k then (a, b) :: m
    else (k, c) :: Memory.write m a b

/-- Bytes written one at a time, in order (R58, R66). -/
def Memory.writeAll (m : List Host.Cell) (cs : List Host.Cell) : List Host.Cell :=
  cs.foldl (fun m c => Memory.write m c.1 c.2) m

/-- The canonical form: addresses strictly rising. -/
abbrev Memory.wf (m : List Host.Cell) : Prop :=
  m.Pairwise fun a b => a.1 < b.1

/-- The byte of buffer memory at an address (R61, R62): the known byte, else the transport's draw, which stays the same
until the next acquire point (R59). -/
def State.readByte (s : State) (a : Nat) : Byte :=
  (Memory.read s.mem a).getD (Config.bufferByte s.epoch a)

/-- `MemRead` at the addresses of a window, in ascending order (R11, R58). -/
def State.readWindow (s : State) (xs : List Int) : List Byte :=
  xs.map fun x => s.readByte x.toNat

/-- `MemWrite` of a window, in ascending order (R11, R58). -/
def State.writeWindow (s : State) (xs : List Int) (bs : List Byte) : State :=
  { s with mem := Memory.writeAll s.mem ((xs.map Int.toNat).zip bs) }

/-- The cells of a list that lie in the address space [0, 2^ADDR_W) (R50). -/
def State.inSpace (s : State) (cs : List Host.Cell) : List Host.Cell :=
  cs.filter fun c => decide (c.1 < 2 ^ s.params.addrW)

/-! ## Ending a command (R72) -/

/-- RAWOUT with every byte zero. -/
def rawZero : Vector Byte 8 :=
  rawBus []

/-- `respond(status, res0, res1, rawout, rawlen)` on the transaction's port (R11, R72). -/
def respond (st : Status) (res0 res1 : Bus) (raw : Vector Byte 8) (len : Nat) (s : State) : State :=
  { s with reply := some ⟨s.port, st, res0, res1, raw, len⟩ }

/-- `respond(status)`: every other response field is 0 (R72). -/
def answer (st : Status) (s : State) : State :=
  respond st 0 0 rawZero 0 s

/-- `respond(OK, res0)`. -/
def result (res0 : Bus) (s : State) : State :=
  respond .ok res0 0 rawZero 0 s

/-- `raise Fault(cause)` (R181): the fault record takes the cause, the command word and the port, the response is
FAULTED, and nothing else changes. -/
def raiseFault (c : Cause) (s : State) : State :=
  answer .faulted
    { s with fault := true, faultCause := c.code, faultWord := s.txn.cmd, faultPort := s.port }

/-- A command refused because the block is faulted (R183): STATUS is FAULTED and nothing is touched. -/
def refuseFaulted (s : State) : State :=
  answer .faulted s

/-- A command's own checks in order (R185): the first that applies is the fault; if none does, the rule is
performed. -/
def checked (checks : List (Bool × Cause)) (rule : State → Host.Outcome State Fault Refusal) (s : State) :
    Host.Outcome State Fault Refusal :=
  match checks with
  | [] => rule s
  | (b, c) :: rest => if b then .next (raiseFault c s) else checked rest rule s

/-! ## Ports and the order of checks (R183, R184, R191) -/

/-- `Ports(OPC)` (R191): CVT, RAWRD, RAWWR and RDREG are legal on both ports, the five cursor commands on P0, the three
lifecycle commands on P1. -/
def legalPort (opc : BitVec 4) (p : Port) : Bool :=
  match opc.toNat with
  | 0x0 | 0x1 | 0x2 | 0xB => true
  | 0x3 | 0x4 | 0x5 | 0x6 | 0x7 => p == .p0
  | 0x8 | 0x9 | 0xA => p == .p1
  | _ => false

/-- The cause a word that decodes to no command faults with (R182). -/
def Illegal.cause : Illegal → Cause
  | .illegalOpcode => .illegalOpcode
  | .reservedBits => .reservedBits
  | .illegalRep => .illegalRep

/-- `Execute` (R184) on a word that decodes to no command: refusal while faulted, ILLEGAL_OPCODE, WRONG_PORT, then
the decoder's cause. -/
def illegalWord (c : Illegal) (s : State) : State :=
  if s.fault then refuseFaulted s
  else if c = .illegalOpcode then raiseFault .illegalOpcode s
  else if legalPort (fieldsOf s.txn.cmd).opc s.port then raiseFault (Illegal.cause c) s
  else raiseFault .wrongPort s

/-- `Execute` (R184) on a command other than RDREG: refusal while faulted, WRONG_PORT, then the command's rule. -/
def gated (legal : Port → Bool) (rule : State → Host.Outcome State Fault Refusal) (s : State) :
    Host.Outcome State Fault Refusal :=
  if s.fault then .next (refuseFaulted s)
  else if legal s.port then rule s
  else .next (raiseFault .wrongPort s)

/-- Legal on P0 and P1 (R191). -/
def bothPorts : Port → Bool :=
  fun _ => true

/-- Legal on P0, the callback port (R191). -/
def callbackPort : Port → Bool :=
  fun p => p == .p0

/-- Legal on P1, the lifecycle port (R191). -/
def lifecyclePort : Port → Bool :=
  fun p => p == .p1

/-! ## Grant and release (R132, R137, R145) -/

/-- The granted frame count: what the transport has ready, never more than the request (R137: `0 ≤ a ≤ n`). -/
def grantedFrames (g : Grant) (n : Bus) : Nat :=
  min g.frames n.toNat

/-- The area a grant loads for channel `c` (R132, R135): the answer's, or a free one where the answer lists none. The
base is held in ADDR_W bits (R32). DESIGN CHOICE (log entry 9), safe. -/
def grantedArea (s : State) (g : Grant) (c : Nat) : Area :=
  let a := (g.areas[c]?).getD ⟨(Config.grantArea s.epoch c).1, (Config.grantArea s.epoch c).2⟩
  ⟨a.base % 2 ^ s.params.addrW, a.stride⟩

/-- A base on the 64-bit result bus (R147): zero-extended; a free value for one that needs more than 64 bits. -/
def baseBus (base : Nat) : Bus :=
  if base < 2 ^ 64 then BitVec.ofNat 64 base else Config.wideBase base

/-- One area per channel (R135, R137). -/
def grantedAreas (s : State) (g : Grant) : List Area :=
  (List.range s.channels.toNat).map (grantedArea s g)

/-- A section taken with `a` frames, `a` not zero: the area file is loaded, the transport's admissions hold, and from
this acquire point on every footprint byte is the transport's (R62): one the answer lists, or a fresh draw. That the
known bytes outside the footprint stay is DEDUCED (log entry 4), safe. -/
def takeSection (g : Grant) (a : Nat) (s : State) : State :=
  let areas := grantedAreas s g
  let kept := s.mem.filter fun c => !inFootprint areas a s.cfgFormat.slotWidth c.1
  { s with
    areas := areas
    admitted := g.admits
    epoch := s.epoch + 1
    mem := Memory.writeAll kept (s.inSpace g.bytes) }

/-- A grant the transport answered OK (R132, R135, R138): Acquired, GRANTED = a, and areas where a is not zero. -/
def acquired (g : Grant) (a : Nat) (s : State) : State :=
  let s1 := { s with curState := .acquired, granted := BitVec.ofNat 32 a }
  if a = 0 then s1 else takeSection g a s1

/-- `Release(st)` (R145): Idle, nothing granted, the area file without a value; frames counted only on OK; BROKEN
set on FATAL. -/
def release (st : Answer) (s : State) : State :=
  { s with
    curState := .idle
    granted := 0
    areas := []
    committedTotal := if st = .ok then addCommitted s.committedTotal s.granted else s.committedTotal
    broken := s.broken || decide (st = .fatal) }

/-! ## The register map (R40) -/

/-- `RegValue(n)` (R40, R168): the number is compared at its full 64 bits; reserved numbers read 0. -/
def regValue (s : State) (n : Bus) : Bus :=
  match n.toNat with
  | 0x00 => s.cfgFormat.code.setWidth 64 ||| bitAt s.cfgLocked 8
  | 0x01 => s.channels
  | 0x02 =>
    bitAt s.invActive 0 ||| bitAt (decide (s.curState = .acquired)) 1 ||| bitAt s.broken 2
      ||| bitAt s.fault 3 ||| bitAt s.shortfall 4
  | 0x03 => s.fcMin.setWidth 64
  | 0x04 => s.fcMax.setWidth 64
  | 0x05 => s.granted.setWidth 64
  | 0x06 => s.committedTotal
  | 0x07 => s.faultCause.setWidth 64 ||| bitAt (portBit s.faultPort) 8
  | 0x08 => s.faultWord.setWidth 64
  | 0x09 => s.discardLast.setWidth 64
  | 0x0A => s.discardCount.setWidth 64
  | _ => 0

/-! ## Events (R190, R200) -/

/-- The reset event (R200, R204): every register at its reset value; a held section is dropped with no commit
attempt; buffer memory and the transport's admissions stay, and no response is outstanding. The model's own fields stay
(log entry 12). -/
def resetBlock (s : State) : State :=
  { State.reset with
    mem := s.mem
    epoch := s.epoch
    admitted := s.admitted
    params := s.params
    draws := s.draws
    abandoned := s.abandoned
    inbox := s.inbox
    port := s.port
    txn := s.txn
    reply := none }

/-- The transport acting on its own memory between transactions (R43, R50): what is admitted now, and bytes written.
That it leaves a held footprint alone is its duty and is not checked (R54, R63, R211): DEDUCED (log entry 10), safe. -/
def transportAct (admits : List Region) (writes : List Host.Cell) (s : State) : State :=
  { s with
    admitted := admits
    mem := Memory.writeAll s.mem (s.inSpace writes)
    reply := none }

/-- Nothing is presented: the block waits with all state kept (R202, R216). DESIGN CHOICE (log entry 13), safe. -/
def waits (s : State) : State :=
  { s with reply := none }

/-- A transaction accepted on its port (R70). DESIGN CHOICE (log entry 16), safe. -/
def accept (p : Port) (t : Transaction) (rest : List Event) (s : State) : State :=
  { s with port := p, txn := t, inbox := rest, reply := none }

/-- Two transactions presented at once (R190): a draw says which goes first, and the other waits. DESIGN
CHOICE (log entry 2). -/
def acceptBoth (t0 t1 : Transaction) (rest : List Event) (s : State) : State :=
  let s1 := { s with draws := s.draws + 1 }
  if Config.p0First s.draws then accept .p0 t0 (.transaction .p1 t1 :: rest) s1
  else accept .p1 t1 (.transaction .p0 t0 :: rest) s1

/-- What is presented without its first reset event, if it holds one. -/
def takeReset : List Event → Option (List Event)
  | [] => none
  | .reset :: es => some es
  | e :: es => (takeReset es).map (e :: ·)

/-- A command that has no step leaves the block stuck (R55); only a reset event ends that, and it abandons the command
without a response (R200) and counts it, while what was presented before the reset still waits. `s` is the state with the command
accepted. DEDUCED (log entry 7), unsafe. -/
def orAbandoned (s : State) (o : Host.Outcome State Fault Refusal) : Host.Outcome State Fault Refusal :=
  match o with
  | .next t => .next t
  | .refused r => .refused r
  | .fault f =>
    match takeReset s.inbox with
    | some es => .next (resetBlock { s with inbox := es, abandoned := s.abandoned + 1 })
    | none => .fault f

/-! ## Presenting a word (for `State.withFetchWord`) -/

/-- The port a word's command is by default presented on (R86): P1 for CONFIGURE, INV_START and INV_END, else P0. -/
def defaultPort (w : Word) : Port :=
  match (fieldsOf w).opc.toNat with
  | 0x8 | 0x9 | 0xA => .p1
  | _ => .p0

/-- What is presented, with a word put on CMD of the transaction that comes next and that transaction on the word's
default port; where no single transaction comes next, one with zero buses is put first. -/
def presentWord (w : Word) : List Event → List Event
  | .transaction _ t :: es => .transaction (defaultPort w) { t with cmd := w } :: es
  | es => .transaction (defaultPort w) { Transaction.zero with cmd := w } :: es

end Sys2Proof.Machine
end

