-- ==== Sys2Proof/Machine/Buffer.lean ====
section
/-!
DEFINITION. The buffer access protocol (42_buffer_access.md): ACQUIRE, GET, SET, COMMIT and AREA, legal on P0 (R191).
-/

namespace Sys2Proof.Machine

/-! ## ACQUIRE (R132) -/

/-- ACQUIRE after its checks (R132, R134 to R138): FATAL without asking a broken stream's transport; else what the
transport answers. -/
def acquireRule (s : State) : Host.Outcome State Fault Refusal :=
  if s.broken then .next (answer .fatal s)
  else
    match s.txn.grant.status with
    | .ok =>
      let a := grantedFrames s.txn.grant s.txn.arg0
      .next (result (BitVec.ofNat 64 a) (acquired s.txn.grant a s))
    | .recoverable => .next (answer .recoverable s)
    | .fatal => .next (answer .fatal { s with broken := true })

/-- ACQUIRE's checks in order (R132, R133, R185); the request is compared at 64 bits (R81). -/
def acquireChecks (s : State) : List (Bool × Cause) :=
  [(!s.invActive, .noInvocation),
   (decide (s.txn.arg0.toNat < s.fcMin.toNat) || decide (s.fcMax.toNat < s.txn.arg0.toNat), .frameCountOutOfRange),
   (decide (s.curState = .acquired), .doubleAcquire)]

/-! ## GET and SET (R139, R142) -/

/-- The checks GET and SET share, in order (R139, R142, R185); ARG0 is the channel and ARG1 the frame, compared at 64
bits (R81). -/
def sampleChecks (s : State) : List (Bool × Cause) :=
  [(!s.invActive, .noInvocation),
   (decide (s.curState = .idle), .notAcquired),
   (decide (s.channels.toNat ≤ s.txn.arg0.toNat), .channelOutOfRange),
   (decide (s.granted.toNat ≤ s.txn.arg1.toNat), .frameOutOfRange)]

/-- The addresses of the sample ARG0 and ARG1 name (R53): none where the area file holds no value for the channel. -/
def sampleWindow (s : State) : Option (List Int) :=
  (s.areas[s.txn.arg0.toNat]?).map fun a => s.windowAddresses a s.txn.arg1.toNat

/-- A sample access: stuck where the area file holds no value (R33) or where a byte is outside the space or not
admitted (R55), before any byte is accessed (R143). -/
def withWindow (s : State) (access : List Int → Host.Outcome State Fault Refusal) :
    Host.Outcome State Fault Refusal :=
  match sampleWindow s with
  | none => .fault .areaAbsent
  | some xs => if xs.all s.accessible then access xs else .fault .stuckAccess

/-- GET after its checks (R139): the window's bytes decoded as the wire format says, converted to the caller's
representation. -/
def getRule (r : Rep) (s : State) : Host.Outcome State Fault Refusal :=
  withWindow s fun xs =>
    let w := rawDecode s.cfgFormat.rep s.cfgFormat.be (s.readWindow xs)
    .next (result (bus r (conv s.cfgFormat.rep r w s.draws))
      { s with draws := s.draws + convDraws s.cfgFormat.rep r w })

/-- GET with the checks of R184 and R185. -/
def getSample (r : Rep) (s : State) : Host.Outcome State Fault Refusal :=
  gated callbackPort (fun s => checked (sampleChecks s) (getRule r) s) s

/-- SET after its checks (R142): the caller's value converted to the wire representation and written as the wire
format says. -/
def setRule (r : Rep) (s : State) : Host.Outcome State Fault Refusal :=
  withWindow s fun xs =>
    let v := unbus r s.txn.arg2
    let w := conv r s.cfgFormat.rep v s.draws
    .next (answer .ok
      { s.writeWindow xs (rawEncode s.cfgFormat.rep s.cfgFormat.be w) with
        draws := s.draws + convDraws r s.cfgFormat.rep v })

/-- SET with the checks of R184 and R185. -/
def setSample (r : Rep) (s : State) : Host.Outcome State Fault Refusal :=
  gated callbackPort (fun s => checked (sampleChecks s) (setRule r) s) s

/-! ## COMMIT (R144) -/

/-- COMMIT after its check (R144, R146): a no-op in Idle; else the section is released, and the status is the
transport's. -/
def commitRule (s : State) : Host.Outcome State Fault Refusal :=
  match s.curState with
  | .idle => .next (answer .ok s)
  | .acquired => .next (answer s.txn.commit.status (release s.txn.commit s))

/-- COMMIT's check (R185). -/
def commitChecks (s : State) : List (Bool × Cause) :=
  [(!s.invActive, .noInvocation)]

/-! ## AREA (R147) -/

/-- AREA after its checks (R147): the base zero-extended, the stride as it is. -/
def areaRule (s : State) : Host.Outcome State Fault Refusal :=
  match s.areas[s.txn.arg0.toNat]? with
  | none => .fault .areaAbsent
  | some a => .next (respond .ok (baseBus a.base) a.stride rawZero 0 s)

/-- AREA's checks in order (R147, R185): NO_AREA before the channel. -/
def areaChecks (s : State) : List (Bool × Cause) :=
  [(!s.invActive, .noInvocation),
   (decide (s.curState = .idle), .notAcquired),
   (decide (s.granted = 0), .noArea),
   (decide (s.channels.toNat ≤ s.txn.arg0.toNat), .channelOutOfRange)]

/-! ## The rows -/

/-- `acquire` (R132). -/
def execAcquire (s : State) : Host.Outcome State Fault Refusal :=
  gated callbackPort (fun s => checked (acquireChecks s) acquireRule s) s

/-- `get.u8` (R139). -/
def execGetU8 (s : State) : Host.Outcome State Fault Refusal :=
  getSample .u8 s

/-- `get.u16` (R139). -/
def execGetU16 (s : State) : Host.Outcome State Fault Refusal :=
  getSample .u16 s

/-- `get.u24` (R139). -/
def execGetU24 (s : State) : Host.Outcome State Fault Refusal :=
  getSample .u24 s

/-- `get.u32` (R139). -/
def execGetU32 (s : State) : Host.Outcome State Fault Refusal :=
  getSample .u32 s

/-- `get.i8` (R139). -/
def execGetI8 (s : State) : Host.Outcome State Fault Refusal :=
  getSample .i8 s

/-- `get.i16` (R139). -/
def execGetI16 (s : State) : Host.Outcome State Fault Refusal :=
  getSample .i16 s

/-- `get.i24` (R139). -/
def execGetI24 (s : State) : Host.Outcome State Fault Refusal :=
  getSample .i24 s

/-- `get.i32` (R139). -/
def execGetI32 (s : State) : Host.Outcome State Fault Refusal :=
  getSample .i32 s

/-- `get.f32` (R139). -/
def execGetF32 (s : State) : Host.Outcome State Fault Refusal :=
  getSample .f32 s

/-- `get.f64` (R139). -/
def execGetF64 (s : State) : Host.Outcome State Fault Refusal :=
  getSample .f64 s

/-- `set.u8` (R142). -/
def execSetU8 (s : State) : Host.Outcome State Fault Refusal :=
  setSample .u8 s

/-- `set.u16` (R142). -/
def execSetU16 (s : State) : Host.Outcome State Fault Refusal :=
  setSample .u16 s

/-- `set.u24` (R142). -/
def execSetU24 (s : State) : Host.Outcome State Fault Refusal :=
  setSample .u24 s

/-- `set.u32` (R142). -/
def execSetU32 (s : State) : Host.Outcome State Fault Refusal :=
  setSample .u32 s

/-- `set.i8` (R142). -/
def execSetI8 (s : State) : Host.Outcome State Fault Refusal :=
  setSample .i8 s

/-- `set.i16` (R142). -/
def execSetI16 (s : State) : Host.Outcome State Fault Refusal :=
  setSample .i16 s

/-- `set.i24` (R142). -/
def execSetI24 (s : State) : Host.Outcome State Fault Refusal :=
  setSample .i24 s

/-- `set.i32` (R142). -/
def execSetI32 (s : State) : Host.Outcome State Fault Refusal :=
  setSample .i32 s

/-- `set.f32` (R142). -/
def execSetF32 (s : State) : Host.Outcome State Fault Refusal :=
  setSample .f32 s

/-- `set.f64` (R142). -/
def execSetF64 (s : State) : Host.Outcome State Fault Refusal :=
  setSample .f64 s

/-- `commit` (R144). -/
def execCommit (s : State) : Host.Outcome State Fault Refusal :=
  gated callbackPort (fun s => checked (commitChecks s) commitRule s) s

/-- `area` (R147). -/
def execArea (s : State) : Host.Outcome State Fault Refusal :=
  gated callbackPort (fun s => checked (areaChecks s) areaRule s) s

end Sys2Proof.Machine
end

