-- ==== Sys2Proof/Machine/Cvt.lean ====
section
/-!
DEFINITION. The CVT family (40_conversion.md R90): one meaning per pair of representations, over `cvtRule`.
-/

namespace Sys2Proof.Machine

/-- CVT (R90): `v := Unbus(s, ARG0)`, `RES0 = Bus(d, Conv(s, d, v))`; a draw is made only for a NaN (R107). -/
def cvtRule (src dst : Rep) (s : State) : Host.Outcome State Fault Refusal :=
  let v := unbus src s.txn.arg0
  .next (result (bus dst (conv src dst v s.draws)) { s with draws := s.draws + convDraws src dst v })

/-- CVT with the checks of R184: it is legal on both ports. -/
def cvt (src dst : Rep) (s : State) : Host.Outcome State Fault Refusal :=
  gated bothPorts (cvtRule src dst) s

/-- `cvt.u8.u8` (R90). -/
def execCvtU8U8 (s : State) : Host.Outcome State Fault Refusal :=
  cvt .u8 .u8 s

/-- `cvt.u8.u16` (R90). -/
def execCvtU8U16 (s : State) : Host.Outcome State Fault Refusal :=
  cvt .u8 .u16 s

/-- `cvt.u8.u24` (R90). -/
def execCvtU8U24 (s : State) : Host.Outcome State Fault Refusal :=
  cvt .u8 .u24 s

/-- `cvt.u8.u32` (R90). -/
def execCvtU8U32 (s : State) : Host.Outcome State Fault Refusal :=
  cvt .u8 .u32 s

/-- `cvt.u8.i8` (R90). -/
def execCvtU8I8 (s : State) : Host.Outcome State Fault Refusal :=
  cvt .u8 .i8 s

/-- `cvt.u8.i16` (R90). -/
def execCvtU8I16 (s : State) : Host.Outcome State Fault Refusal :=
  cvt .u8 .i16 s

/-- `cvt.u8.i24` (R90). -/
def execCvtU8I24 (s : State) : Host.Outcome State Fault Refusal :=
  cvt .u8 .i24 s

/-- `cvt.u8.i32` (R90). -/
def execCvtU8I32 (s : State) : Host.Outcome State Fault Refusal :=
  cvt .u8 .i32 s

/-- `cvt.u8.f32` (R90). -/
def execCvtU8F32 (s : State) : Host.Outcome State Fault Refusal :=
  cvt .u8 .f32 s

/-- `cvt.u8.f64` (R90). -/
def execCvtU8F64 (s : State) : Host.Outcome State Fault Refusal :=
  cvt .u8 .f64 s

/-- `cvt.u16.u8` (R90). -/
def execCvtU16U8 (s : State) : Host.Outcome State Fault Refusal :=
  cvt .u16 .u8 s

/-- `cvt.u16.u16` (R90). -/
def execCvtU16U16 (s : State) : Host.Outcome State Fault Refusal :=
  cvt .u16 .u16 s

/-- `cvt.u16.u24` (R90). -/
def execCvtU16U24 (s : State) : Host.Outcome State Fault Refusal :=
  cvt .u16 .u24 s

/-- `cvt.u16.u32` (R90). -/
def execCvtU16U32 (s : State) : Host.Outcome State Fault Refusal :=
  cvt .u16 .u32 s

/-- `cvt.u16.i8` (R90). -/
def execCvtU16I8 (s : State) : Host.Outcome State Fault Refusal :=
  cvt .u16 .i8 s

/-- `cvt.u16.i16` (R90). -/
def execCvtU16I16 (s : State) : Host.Outcome State Fault Refusal :=
  cvt .u16 .i16 s

/-- `cvt.u16.i24` (R90). -/
def execCvtU16I24 (s : State) : Host.Outcome State Fault Refusal :=
  cvt .u16 .i24 s

/-- `cvt.u16.i32` (R90). -/
def execCvtU16I32 (s : State) : Host.Outcome State Fault Refusal :=
  cvt .u16 .i32 s

/-- `cvt.u16.f32` (R90). -/
def execCvtU16F32 (s : State) : Host.Outcome State Fault Refusal :=
  cvt .u16 .f32 s

/-- `cvt.u16.f64` (R90). -/
def execCvtU16F64 (s : State) : Host.Outcome State Fault Refusal :=
  cvt .u16 .f64 s

/-- `cvt.u24.u8` (R90). -/
def execCvtU24U8 (s : State) : Host.Outcome State Fault Refusal :=
  cvt .u24 .u8 s

/-- `cvt.u24.u16` (R90). -/
def execCvtU24U16 (s : State) : Host.Outcome State Fault Refusal :=
  cvt .u24 .u16 s

/-- `cvt.u24.u24` (R90). -/
def execCvtU24U24 (s : State) : Host.Outcome State Fault Refusal :=
  cvt .u24 .u24 s

/-- `cvt.u24.u32` (R90). -/
def execCvtU24U32 (s : State) : Host.Outcome State Fault Refusal :=
  cvt .u24 .u32 s

/-- `cvt.u24.i8` (R90). -/
def execCvtU24I8 (s : State) : Host.Outcome State Fault Refusal :=
  cvt .u24 .i8 s

/-- `cvt.u24.i16` (R90). -/
def execCvtU24I16 (s : State) : Host.Outcome State Fault Refusal :=
  cvt .u24 .i16 s

/-- `cvt.u24.i24` (R90). -/
def execCvtU24I24 (s : State) : Host.Outcome State Fault Refusal :=
  cvt .u24 .i24 s

/-- `cvt.u24.i32` (R90). -/
def execCvtU24I32 (s : State) : Host.Outcome State Fault Refusal :=
  cvt .u24 .i32 s

/-- `cvt.u24.f32` (R90). -/
def execCvtU24F32 (s : State) : Host.Outcome State Fault Refusal :=
  cvt .u24 .f32 s

/-- `cvt.u24.f64` (R90). -/
def execCvtU24F64 (s : State) : Host.Outcome State Fault Refusal :=
  cvt .u24 .f64 s

/-- `cvt.u32.u8` (R90). -/
def execCvtU32U8 (s : State) : Host.Outcome State Fault Refusal :=
  cvt .u32 .u8 s

/-- `cvt.u32.u16` (R90). -/
def execCvtU32U16 (s : State) : Host.Outcome State Fault Refusal :=
  cvt .u32 .u16 s

/-- `cvt.u32.u24` (R90). -/
def execCvtU32U24 (s : State) : Host.Outcome State Fault Refusal :=
  cvt .u32 .u24 s

/-- `cvt.u32.u32` (R90). -/
def execCvtU32U32 (s : State) : Host.Outcome State Fault Refusal :=
  cvt .u32 .u32 s

/-- `cvt.u32.i8` (R90). -/
def execCvtU32I8 (s : State) : Host.Outcome State Fault Refusal :=
  cvt .u32 .i8 s

/-- `cvt.u32.i16` (R90). -/
def execCvtU32I16 (s : State) : Host.Outcome State Fault Refusal :=
  cvt .u32 .i16 s

/-- `cvt.u32.i24` (R90). -/
def execCvtU32I24 (s : State) : Host.Outcome State Fault Refusal :=
  cvt .u32 .i24 s

/-- `cvt.u32.i32` (R90). -/
def execCvtU32I32 (s : State) : Host.Outcome State Fault Refusal :=
  cvt .u32 .i32 s

/-- `cvt.u32.f32` (R90). -/
def execCvtU32F32 (s : State) : Host.Outcome State Fault Refusal :=
  cvt .u32 .f32 s

/-- `cvt.u32.f64` (R90). -/
def execCvtU32F64 (s : State) : Host.Outcome State Fault Refusal :=
  cvt .u32 .f64 s

/-- `cvt.i8.u8` (R90). -/
def execCvtI8U8 (s : State) : Host.Outcome State Fault Refusal :=
  cvt .i8 .u8 s

/-- `cvt.i8.u16` (R90). -/
def execCvtI8U16 (s : State) : Host.Outcome State Fault Refusal :=
  cvt .i8 .u16 s

/-- `cvt.i8.u24` (R90). -/
def execCvtI8U24 (s : State) : Host.Outcome State Fault Refusal :=
  cvt .i8 .u24 s

/-- `cvt.i8.u32` (R90). -/
def execCvtI8U32 (s : State) : Host.Outcome State Fault Refusal :=
  cvt .i8 .u32 s

/-- `cvt.i8.i8` (R90). -/
def execCvtI8I8 (s : State) : Host.Outcome State Fault Refusal :=
  cvt .i8 .i8 s

/-- `cvt.i8.i16` (R90). -/
def execCvtI8I16 (s : State) : Host.Outcome State Fault Refusal :=
  cvt .i8 .i16 s

/-- `cvt.i8.i24` (R90). -/
def execCvtI8I24 (s : State) : Host.Outcome State Fault Refusal :=
  cvt .i8 .i24 s

/-- `cvt.i8.i32` (R90). -/
def execCvtI8I32 (s : State) : Host.Outcome State Fault Refusal :=
  cvt .i8 .i32 s

/-- `cvt.i8.f32` (R90). -/
def execCvtI8F32 (s : State) : Host.Outcome State Fault Refusal :=
  cvt .i8 .f32 s

/-- `cvt.i8.f64` (R90). -/
def execCvtI8F64 (s : State) : Host.Outcome State Fault Refusal :=
  cvt .i8 .f64 s

/-- `cvt.i16.u8` (R90). -/
def execCvtI16U8 (s : State) : Host.Outcome State Fault Refusal :=
  cvt .i16 .u8 s

/-- `cvt.i16.u16` (R90). -/
def execCvtI16U16 (s : State) : Host.Outcome State Fault Refusal :=
  cvt .i16 .u16 s

/-- `cvt.i16.u24` (R90). -/
def execCvtI16U24 (s : State) : Host.Outcome State Fault Refusal :=
  cvt .i16 .u24 s

/-- `cvt.i16.u32` (R90). -/
def execCvtI16U32 (s : State) : Host.Outcome State Fault Refusal :=
  cvt .i16 .u32 s

/-- `cvt.i16.i8` (R90). -/
def execCvtI16I8 (s : State) : Host.Outcome State Fault Refusal :=
  cvt .i16 .i8 s

/-- `cvt.i16.i16` (R90). -/
def execCvtI16I16 (s : State) : Host.Outcome State Fault Refusal :=
  cvt .i16 .i16 s

/-- `cvt.i16.i24` (R90). -/
def execCvtI16I24 (s : State) : Host.Outcome State Fault Refusal :=
  cvt .i16 .i24 s

/-- `cvt.i16.i32` (R90). -/
def execCvtI16I32 (s : State) : Host.Outcome State Fault Refusal :=
  cvt .i16 .i32 s

/-- `cvt.i16.f32` (R90). -/
def execCvtI16F32 (s : State) : Host.Outcome State Fault Refusal :=
  cvt .i16 .f32 s

/-- `cvt.i16.f64` (R90). -/
def execCvtI16F64 (s : State) : Host.Outcome State Fault Refusal :=
  cvt .i16 .f64 s

/-- `cvt.i24.u8` (R90). -/
def execCvtI24U8 (s : State) : Host.Outcome State Fault Refusal :=
  cvt .i24 .u8 s

/-- `cvt.i24.u16` (R90). -/
def execCvtI24U16 (s : State) : Host.Outcome State Fault Refusal :=
  cvt .i24 .u16 s

/-- `cvt.i24.u24` (R90). -/
def execCvtI24U24 (s : State) : Host.Outcome State Fault Refusal :=
  cvt .i24 .u24 s

/-- `cvt.i24.u32` (R90). -/
def execCvtI24U32 (s : State) : Host.Outcome State Fault Refusal :=
  cvt .i24 .u32 s

/-- `cvt.i24.i8` (R90). -/
def execCvtI24I8 (s : State) : Host.Outcome State Fault Refusal :=
  cvt .i24 .i8 s

/-- `cvt.i24.i16` (R90). -/
def execCvtI24I16 (s : State) : Host.Outcome State Fault Refusal :=
  cvt .i24 .i16 s

/-- `cvt.i24.i24` (R90). -/
def execCvtI24I24 (s : State) : Host.Outcome State Fault Refusal :=
  cvt .i24 .i24 s

/-- `cvt.i24.i32` (R90). -/
def execCvtI24I32 (s : State) : Host.Outcome State Fault Refusal :=
  cvt .i24 .i32 s

/-- `cvt.i24.f32` (R90). -/
def execCvtI24F32 (s : State) : Host.Outcome State Fault Refusal :=
  cvt .i24 .f32 s

/-- `cvt.i24.f64` (R90). -/
def execCvtI24F64 (s : State) : Host.Outcome State Fault Refusal :=
  cvt .i24 .f64 s

/-- `cvt.i32.u8` (R90). -/
def execCvtI32U8 (s : State) : Host.Outcome State Fault Refusal :=
  cvt .i32 .u8 s

/-- `cvt.i32.u16` (R90). -/
def execCvtI32U16 (s : State) : Host.Outcome State Fault Refusal :=
  cvt .i32 .u16 s

/-- `cvt.i32.u24` (R90). -/
def execCvtI32U24 (s : State) : Host.Outcome State Fault Refusal :=
  cvt .i32 .u24 s

/-- `cvt.i32.u32` (R90). -/
def execCvtI32U32 (s : State) : Host.Outcome State Fault Refusal :=
  cvt .i32 .u32 s

/-- `cvt.i32.i8` (R90). -/
def execCvtI32I8 (s : State) : Host.Outcome State Fault Refusal :=
  cvt .i32 .i8 s

/-- `cvt.i32.i16` (R90). -/
def execCvtI32I16 (s : State) : Host.Outcome State Fault Refusal :=
  cvt .i32 .i16 s

/-- `cvt.i32.i24` (R90). -/
def execCvtI32I24 (s : State) : Host.Outcome State Fault Refusal :=
  cvt .i32 .i24 s

/-- `cvt.i32.i32` (R90). -/
def execCvtI32I32 (s : State) : Host.Outcome State Fault Refusal :=
  cvt .i32 .i32 s

/-- `cvt.i32.f32` (R90). -/
def execCvtI32F32 (s : State) : Host.Outcome State Fault Refusal :=
  cvt .i32 .f32 s

/-- `cvt.i32.f64` (R90). -/
def execCvtI32F64 (s : State) : Host.Outcome State Fault Refusal :=
  cvt .i32 .f64 s

/-- `cvt.f32.u8` (R90). -/
def execCvtF32U8 (s : State) : Host.Outcome State Fault Refusal :=
  cvt .f32 .u8 s

/-- `cvt.f32.u16` (R90). -/
def execCvtF32U16 (s : State) : Host.Outcome State Fault Refusal :=
  cvt .f32 .u16 s

/-- `cvt.f32.u24` (R90). -/
def execCvtF32U24 (s : State) : Host.Outcome State Fault Refusal :=
  cvt .f32 .u24 s

/-- `cvt.f32.u32` (R90). -/
def execCvtF32U32 (s : State) : Host.Outcome State Fault Refusal :=
  cvt .f32 .u32 s

/-- `cvt.f32.i8` (R90). -/
def execCvtF32I8 (s : State) : Host.Outcome State Fault Refusal :=
  cvt .f32 .i8 s

/-- `cvt.f32.i16` (R90). -/
def execCvtF32I16 (s : State) : Host.Outcome State Fault Refusal :=
  cvt .f32 .i16 s

/-- `cvt.f32.i24` (R90). -/
def execCvtF32I24 (s : State) : Host.Outcome State Fault Refusal :=
  cvt .f32 .i24 s

/-- `cvt.f32.i32` (R90). -/
def execCvtF32I32 (s : State) : Host.Outcome State Fault Refusal :=
  cvt .f32 .i32 s

/-- `cvt.f32.f32` (R90). -/
def execCvtF32F32 (s : State) : Host.Outcome State Fault Refusal :=
  cvt .f32 .f32 s

/-- `cvt.f32.f64` (R90). -/
def execCvtF32F64 (s : State) : Host.Outcome State Fault Refusal :=
  cvt .f32 .f64 s

/-- `cvt.f64.u8` (R90). -/
def execCvtF64U8 (s : State) : Host.Outcome State Fault Refusal :=
  cvt .f64 .u8 s

/-- `cvt.f64.u16` (R90). -/
def execCvtF64U16 (s : State) : Host.Outcome State Fault Refusal :=
  cvt .f64 .u16 s

/-- `cvt.f64.u24` (R90). -/
def execCvtF64U24 (s : State) : Host.Outcome State Fault Refusal :=
  cvt .f64 .u24 s

/-- `cvt.f64.u32` (R90). -/
def execCvtF64U32 (s : State) : Host.Outcome State Fault Refusal :=
  cvt .f64 .u32 s

/-- `cvt.f64.i8` (R90). -/
def execCvtF64I8 (s : State) : Host.Outcome State Fault Refusal :=
  cvt .f64 .i8 s

/-- `cvt.f64.i16` (R90). -/
def execCvtF64I16 (s : State) : Host.Outcome State Fault Refusal :=
  cvt .f64 .i16 s

/-- `cvt.f64.i24` (R90). -/
def execCvtF64I24 (s : State) : Host.Outcome State Fault Refusal :=
  cvt .f64 .i24 s

/-- `cvt.f64.i32` (R90). -/
def execCvtF64I32 (s : State) : Host.Outcome State Fault Refusal :=
  cvt .f64 .i32 s

/-- `cvt.f64.f32` (R90). -/
def execCvtF64F32 (s : State) : Host.Outcome State Fault Refusal :=
  cvt .f64 .f32 s

/-- `cvt.f64.f64` (R90). -/
def execCvtF64F64 (s : State) : Host.Outcome State Fault Refusal :=
  cvt .f64 .f64 s

end Sys2Proof.Machine
end

