-- ==== Sys2Proof/Machine/Lifecycle.lean ====
section
/-!
DEFINITION. The lifecycle and status commands (43_lifecycle_and_status.md): CONFIGURE, INV_START and INV_END, legal on P1, and RDREG, legal on both ports and while faulted (R169, R191).
-/

namespace Sys2Proof.Machine

/-! ## CONFIGURE (R160) -/

/-- CONFIGURE after its checks (R160). -/
def configureRule (s : State) : Host.Outcome State Fault Refusal :=
  match formatOfCode s.txn.arg0 with
  | none => .next (raiseFault .illegalFormat s)
  | some f => .next (answer .ok { s with cfgFormat := f, channels := s.txn.arg1, cfgLocked := true })

/-- CONFIGURE's checks in order (R160, R185), at full width. -/
def configureChecks (s : State) : List (Bool × Cause) :=
  [(s.cfgLocked, .configLocked),
   ((formatOfCode s.txn.arg0).isNone, .illegalFormat),
   (decide (s.txn.arg1.toNat < 1) || decide (s.params.maxChannels < s.txn.arg1.toNat), .badChannelCount)]

/-! ## INV_START (R163) -/

/-- INV_START after its checks (R163): a fresh cursor with the window. -/
def invStartRule (s : State) : Host.Outcome State Fault Refusal :=
  .next (answer .ok
    { s with
      invActive := true
      fcMin := s.txn.arg0.setWidth 32
      fcMax := s.txn.arg1.setWidth 32
      curState := .idle
      granted := 0
      committedTotal := 0
      shortfall := false })

/-- INV_START's checks in order (R163, R164, R185). -/
def invStartChecks (s : State) : List (Bool × Cause) :=
  [(!s.cfgLocked, .notConfigured),
   (s.invActive, .invocationActive),
   (s.broken, .streamBroken),
   (decide (s.txn.arg1.toNat < s.txn.arg0.toNat) || decide (2 ^ 32 ≤ s.txn.arg1.toNat), .badWindow)]

/-! ## INV_END (R165) -/

/-- The implicit commit of an acquired section (R165, R166): an answer other than OK goes to the side channel. -/
def implicitCommit (s : State) : State :=
  match s.curState with
  | .idle => s
  | .acquired =>
    let s1 := release s.txn.commit s
    if s.txn.commit = .ok then s1
    else { s1 with discardLast := s.txn.commit.status.code, discardCount := bumpDiscards s1.discardCount }

/-- INV_END after its check (R165, R167): STATUS is OK whatever the implicit commit answered. -/
def invEndRule (s : State) : Host.Outcome State Fault Refusal :=
  let s1 := implicitCommit s
  .next (answer .ok { s1 with shortfall := shortOf s1.committedTotal s1.fcMin, invActive := false })

/-- INV_END's check (R185). -/
def invEndChecks (s : State) : List (Bool × Cause) :=
  [(!s.invActive, .noInvocation)]

/-! ## The rows -/

/-- `configure` (R160). -/
def execConfigure (s : State) : Host.Outcome State Fault Refusal :=
  gated lifecyclePort (fun s => checked (configureChecks s) configureRule s) s

/-- `inv.start` (R163). -/
def execInvStart (s : State) : Host.Outcome State Fault Refusal :=
  gated lifecyclePort (fun s => checked (invStartChecks s) invStartRule s) s

/-- `inv.end` (R165). -/
def execInvEnd (s : State) : Host.Outcome State Fault Refusal :=
  gated lifecyclePort (fun s => checked (invEndChecks s) invEndRule s) s

/-- `rdreg` (R168). -/
def execRdreg (s : State) : Host.Outcome State Fault Refusal :=
  .next (result (regValue s s.txn.arg0) s)

end Sys2Proof.Machine
end

