-- ==== Sys2Proof/Machine/Raw.lean ====
section
/-!
DEFINITION. The RAWRD and RAWWR families (41_raw_serialization.md R122, R123): one meaning per representation and byte order.
-/

namespace Sys2Proof.Machine

/-- RAWRD (R122): `RES0 = Bus(r, RawDecode(r, be, RAWIN[0..RW−1]))`. -/
def rawrdRule (r : Rep) (be : Bool) (s : State) : Host.Outcome State Fault Refusal :=
  .next (result (bus r (rawDecode r be (rawWindow r.rawWidth s.txn.rawin))) s)

/-- RAWRD with the checks of R184: it is legal on both ports. -/
def rawrd (r : Rep) (be : Bool) (s : State) : Host.Outcome State Fault Refusal :=
  gated bothPorts (rawrdRule r be) s

/-- RAWWR (R123): `RAWOUT = RawEncode(r, be, Unbus(r, ARG0))`, zero past the window, `RAWLEN = RW`. -/
def rawwrRule (r : Rep) (be : Bool) (s : State) : Host.Outcome State Fault Refusal :=
  .next (respond .ok 0 0 (rawBus (rawEncode r be (unbus r s.txn.arg0))) r.rawWidth s)

/-- RAWWR with the checks of R184: it is legal on both ports. -/
def rawwr (r : Rep) (be : Bool) (s : State) : Host.Outcome State Fault Refusal :=
  gated bothPorts (rawwrRule r be) s

/-- `rawrd.u8.le` (R122). -/
def execRawrdU8Le (s : State) : Host.Outcome State Fault Refusal :=
  rawrd .u8 false s

/-- `rawrd.u8.be` (R122). -/
def execRawrdU8Be (s : State) : Host.Outcome State Fault Refusal :=
  rawrd .u8 true s

/-- `rawrd.u16.le` (R122). -/
def execRawrdU16Le (s : State) : Host.Outcome State Fault Refusal :=
  rawrd .u16 false s

/-- `rawrd.u16.be` (R122). -/
def execRawrdU16Be (s : State) : Host.Outcome State Fault Refusal :=
  rawrd .u16 true s

/-- `rawrd.u24.le` (R122). -/
def execRawrdU24Le (s : State) : Host.Outcome State Fault Refusal :=
  rawrd .u24 false s

/-- `rawrd.u24.be` (R122). -/
def execRawrdU24Be (s : State) : Host.Outcome State Fault Refusal :=
  rawrd .u24 true s

/-- `rawrd.u32.le` (R122). -/
def execRawrdU32Le (s : State) : Host.Outcome State Fault Refusal :=
  rawrd .u32 false s

/-- `rawrd.u32.be` (R122). -/
def execRawrdU32Be (s : State) : Host.Outcome State Fault Refusal :=
  rawrd .u32 true s

/-- `rawrd.i8.le` (R122). -/
def execRawrdI8Le (s : State) : Host.Outcome State Fault Refusal :=
  rawrd .i8 false s

/-- `rawrd.i8.be` (R122). -/
def execRawrdI8Be (s : State) : Host.Outcome State Fault Refusal :=
  rawrd .i8 true s

/-- `rawrd.i16.le` (R122). -/
def execRawrdI16Le (s : State) : Host.Outcome State Fault Refusal :=
  rawrd .i16 false s

/-- `rawrd.i16.be` (R122). -/
def execRawrdI16Be (s : State) : Host.Outcome State Fault Refusal :=
  rawrd .i16 true s

/-- `rawrd.i24.le` (R122). -/
def execRawrdI24Le (s : State) : Host.Outcome State Fault Refusal :=
  rawrd .i24 false s

/-- `rawrd.i24.be` (R122). -/
def execRawrdI24Be (s : State) : Host.Outcome State Fault Refusal :=
  rawrd .i24 true s

/-- `rawrd.i32.le` (R122). -/
def execRawrdI32Le (s : State) : Host.Outcome State Fault Refusal :=
  rawrd .i32 false s

/-- `rawrd.i32.be` (R122). -/
def execRawrdI32Be (s : State) : Host.Outcome State Fault Refusal :=
  rawrd .i32 true s

/-- `rawrd.f32.le` (R122). -/
def execRawrdF32Le (s : State) : Host.Outcome State Fault Refusal :=
  rawrd .f32 false s

/-- `rawrd.f32.be` (R122). -/
def execRawrdF32Be (s : State) : Host.Outcome State Fault Refusal :=
  rawrd .f32 true s

/-- `rawrd.f64.le` (R122). -/
def execRawrdF64Le (s : State) : Host.Outcome State Fault Refusal :=
  rawrd .f64 false s

/-- `rawrd.f64.be` (R122). -/
def execRawrdF64Be (s : State) : Host.Outcome State Fault Refusal :=
  rawrd .f64 true s

/-- `rawwr.u8.le` (R123). -/
def execRawwrU8Le (s : State) : Host.Outcome State Fault Refusal :=
  rawwr .u8 false s

/-- `rawwr.u8.be` (R123). -/
def execRawwrU8Be (s : State) : Host.Outcome State Fault Refusal :=
  rawwr .u8 true s

/-- `rawwr.u16.le` (R123). -/
def execRawwrU16Le (s : State) : Host.Outcome State Fault Refusal :=
  rawwr .u16 false s

/-- `rawwr.u16.be` (R123). -/
def execRawwrU16Be (s : State) : Host.Outcome State Fault Refusal :=
  rawwr .u16 true s

/-- `rawwr.u24.le` (R123). -/
def execRawwrU24Le (s : State) : Host.Outcome State Fault Refusal :=
  rawwr .u24 false s

/-- `rawwr.u24.be` (R123). -/
def execRawwrU24Be (s : State) : Host.Outcome State Fault Refusal :=
  rawwr .u24 true s

/-- `rawwr.u32.le` (R123). -/
def execRawwrU32Le (s : State) : Host.Outcome State Fault Refusal :=
  rawwr .u32 false s

/-- `rawwr.u32.be` (R123). -/
def execRawwrU32Be (s : State) : Host.Outcome State Fault Refusal :=
  rawwr .u32 true s

/-- `rawwr.i8.le` (R123). -/
def execRawwrI8Le (s : State) : Host.Outcome State Fault Refusal :=
  rawwr .i8 false s

/-- `rawwr.i8.be` (R123). -/
def execRawwrI8Be (s : State) : Host.Outcome State Fault Refusal :=
  rawwr .i8 true s

/-- `rawwr.i16.le` (R123). -/
def execRawwrI16Le (s : State) : Host.Outcome State Fault Refusal :=
  rawwr .i16 false s

/-- `rawwr.i16.be` (R123). -/
def execRawwrI16Be (s : State) : Host.Outcome State Fault Refusal :=
  rawwr .i16 true s

/-- `rawwr.i24.le` (R123). -/
def execRawwrI24Le (s : State) : Host.Outcome State Fault Refusal :=
  rawwr .i24 false s

/-- `rawwr.i24.be` (R123). -/
def execRawwrI24Be (s : State) : Host.Outcome State Fault Refusal :=
  rawwr .i24 true s

/-- `rawwr.i32.le` (R123). -/
def execRawwrI32Le (s : State) : Host.Outcome State Fault Refusal :=
  rawwr .i32 false s

/-- `rawwr.i32.be` (R123). -/
def execRawwrI32Be (s : State) : Host.Outcome State Fault Refusal :=
  rawwr .i32 true s

/-- `rawwr.f32.le` (R123). -/
def execRawwrF32Le (s : State) : Host.Outcome State Fault Refusal :=
  rawwr .f32 false s

/-- `rawwr.f32.be` (R123). -/
def execRawwrF32Be (s : State) : Host.Outcome State Fault Refusal :=
  rawwr .f32 true s

/-- `rawwr.f64.le` (R123). -/
def execRawwrF64Le (s : State) : Host.Outcome State Fault Refusal :=
  rawwr .f64 false s

/-- `rawwr.f64.be` (R123). -/
def execRawwrF64Be (s : State) : Host.Outcome State Fault Refusal :=
  rawwr .f64 true s

end Sys2Proof.Machine
end

