-- ==== Sys2Proof/Machine/Dispatch.lean ====
section
/-!
DEFINITION. One arm per row of the opcode table, each one call of that row's meaning.
-/

namespace Sys2Proof.Machine

/-- What an instruction does in a state (R184, after the decoder). -/
def exec (i : Instr) (s : State) : Host.Outcome State Fault Refusal :=
  match i with
  | .cvtU8U8 => Sys2Proof.Machine.execCvtU8U8 s
  | .cvtU8U16 => Sys2Proof.Machine.execCvtU8U16 s
  | .cvtU8U24 => Sys2Proof.Machine.execCvtU8U24 s
  | .cvtU8U32 => Sys2Proof.Machine.execCvtU8U32 s
  | .cvtU8I8 => Sys2Proof.Machine.execCvtU8I8 s
  | .cvtU8I16 => Sys2Proof.Machine.execCvtU8I16 s
  | .cvtU8I24 => Sys2Proof.Machine.execCvtU8I24 s
  | .cvtU8I32 => Sys2Proof.Machine.execCvtU8I32 s
  | .cvtU8F32 => Sys2Proof.Machine.execCvtU8F32 s
  | .cvtU8F64 => Sys2Proof.Machine.execCvtU8F64 s
  | .cvtU16U8 => Sys2Proof.Machine.execCvtU16U8 s
  | .cvtU16U16 => Sys2Proof.Machine.execCvtU16U16 s
  | .cvtU16U24 => Sys2Proof.Machine.execCvtU16U24 s
  | .cvtU16U32 => Sys2Proof.Machine.execCvtU16U32 s
  | .cvtU16I8 => Sys2Proof.Machine.execCvtU16I8 s
  | .cvtU16I16 => Sys2Proof.Machine.execCvtU16I16 s
  | .cvtU16I24 => Sys2Proof.Machine.execCvtU16I24 s
  | .cvtU16I32 => Sys2Proof.Machine.execCvtU16I32 s
  | .cvtU16F32 => Sys2Proof.Machine.execCvtU16F32 s
  | .cvtU16F64 => Sys2Proof.Machine.execCvtU16F64 s
  | .cvtU24U8 => Sys2Proof.Machine.execCvtU24U8 s
  | .cvtU24U16 => Sys2Proof.Machine.execCvtU24U16 s
  | .cvtU24U24 => Sys2Proof.Machine.execCvtU24U24 s
  | .cvtU24U32 => Sys2Proof.Machine.execCvtU24U32 s
  | .cvtU24I8 => Sys2Proof.Machine.execCvtU24I8 s
  | .cvtU24I16 => Sys2Proof.Machine.execCvtU24I16 s
  | .cvtU24I24 => Sys2Proof.Machine.execCvtU24I24 s
  | .cvtU24I32 => Sys2Proof.Machine.execCvtU24I32 s
  | .cvtU24F32 => Sys2Proof.Machine.execCvtU24F32 s
  | .cvtU24F64 => Sys2Proof.Machine.execCvtU24F64 s
  | .cvtU32U8 => Sys2Proof.Machine.execCvtU32U8 s
  | .cvtU32U16 => Sys2Proof.Machine.execCvtU32U16 s
  | .cvtU32U24 => Sys2Proof.Machine.execCvtU32U24 s
  | .cvtU32U32 => Sys2Proof.Machine.execCvtU32U32 s
  | .cvtU32I8 => Sys2Proof.Machine.execCvtU32I8 s
  | .cvtU32I16 => Sys2Proof.Machine.execCvtU32I16 s
  | .cvtU32I24 => Sys2Proof.Machine.execCvtU32I24 s
  | .cvtU32I32 => Sys2Proof.Machine.execCvtU32I32 s
  | .cvtU32F32 => Sys2Proof.Machine.execCvtU32F32 s
  | .cvtU32F64 => Sys2Proof.Machine.execCvtU32F64 s
  | .cvtI8U8 => Sys2Proof.Machine.execCvtI8U8 s
  | .cvtI8U16 => Sys2Proof.Machine.execCvtI8U16 s
  | .cvtI8U24 => Sys2Proof.Machine.execCvtI8U24 s
  | .cvtI8U32 => Sys2Proof.Machine.execCvtI8U32 s
  | .cvtI8I8 => Sys2Proof.Machine.execCvtI8I8 s
  | .cvtI8I16 => Sys2Proof.Machine.execCvtI8I16 s
  | .cvtI8I24 => Sys2Proof.Machine.execCvtI8I24 s
  | .cvtI8I32 => Sys2Proof.Machine.execCvtI8I32 s
  | .cvtI8F32 => Sys2Proof.Machine.execCvtI8F32 s
  | .cvtI8F64 => Sys2Proof.Machine.execCvtI8F64 s
  | .cvtI16U8 => Sys2Proof.Machine.execCvtI16U8 s
  | .cvtI16U16 => Sys2Proof.Machine.execCvtI16U16 s
  | .cvtI16U24 => Sys2Proof.Machine.execCvtI16U24 s
  | .cvtI16U32 => Sys2Proof.Machine.execCvtI16U32 s
  | .cvtI16I8 => Sys2Proof.Machine.execCvtI16I8 s
  | .cvtI16I16 => Sys2Proof.Machine.execCvtI16I16 s
  | .cvtI16I24 => Sys2Proof.Machine.execCvtI16I24 s
  | .cvtI16I32 => Sys2Proof.Machine.execCvtI16I32 s
  | .cvtI16F32 => Sys2Proof.Machine.execCvtI16F32 s
  | .cvtI16F64 => Sys2Proof.Machine.execCvtI16F64 s
  | .cvtI24U8 => Sys2Proof.Machine.execCvtI24U8 s
  | .cvtI24U16 => Sys2Proof.Machine.execCvtI24U16 s
  | .cvtI24U24 => Sys2Proof.Machine.execCvtI24U24 s
  | .cvtI24U32 => Sys2Proof.Machine.execCvtI24U32 s
  | .cvtI24I8 => Sys2Proof.Machine.execCvtI24I8 s
  | .cvtI24I16 => Sys2Proof.Machine.execCvtI24I16 s
  | .cvtI24I24 => Sys2Proof.Machine.execCvtI24I24 s
  | .cvtI24I32 => Sys2Proof.Machine.execCvtI24I32 s
  | .cvtI24F32 => Sys2Proof.Machine.execCvtI24F32 s
  | .cvtI24F64 => Sys2Proof.Machine.execCvtI24F64 s
  | .cvtI32U8 => Sys2Proof.Machine.execCvtI32U8 s
  | .cvtI32U16 => Sys2Proof.Machine.execCvtI32U16 s
  | .cvtI32U24 => Sys2Proof.Machine.execCvtI32U24 s
  | .cvtI32U32 => Sys2Proof.Machine.execCvtI32U32 s
  | .cvtI32I8 => Sys2Proof.Machine.execCvtI32I8 s
  | .cvtI32I16 => Sys2Proof.Machine.execCvtI32I16 s
  | .cvtI32I24 => Sys2Proof.Machine.execCvtI32I24 s
  | .cvtI32I32 => Sys2Proof.Machine.execCvtI32I32 s
  | .cvtI32F32 => Sys2Proof.Machine.execCvtI32F32 s
  | .cvtI32F64 => Sys2Proof.Machine.execCvtI32F64 s
  | .cvtF32U8 => Sys2Proof.Machine.execCvtF32U8 s
  | .cvtF32U16 => Sys2Proof.Machine.execCvtF32U16 s
  | .cvtF32U24 => Sys2Proof.Machine.execCvtF32U24 s
  | .cvtF32U32 => Sys2Proof.Machine.execCvtF32U32 s
  | .cvtF32I8 => Sys2Proof.Machine.execCvtF32I8 s
  | .cvtF32I16 => Sys2Proof.Machine.execCvtF32I16 s
  | .cvtF32I24 => Sys2Proof.Machine.execCvtF32I24 s
  | .cvtF32I32 => Sys2Proof.Machine.execCvtF32I32 s
  | .cvtF32F32 => Sys2Proof.Machine.execCvtF32F32 s
  | .cvtF32F64 => Sys2Proof.Machine.execCvtF32F64 s
  | .cvtF64U8 => Sys2Proof.Machine.execCvtF64U8 s
  | .cvtF64U16 => Sys2Proof.Machine.execCvtF64U16 s
  | .cvtF64U24 => Sys2Proof.Machine.execCvtF64U24 s
  | .cvtF64U32 => Sys2Proof.Machine.execCvtF64U32 s
  | .cvtF64I8 => Sys2Proof.Machine.execCvtF64I8 s
  | .cvtF64I16 => Sys2Proof.Machine.execCvtF64I16 s
  | .cvtF64I24 => Sys2Proof.Machine.execCvtF64I24 s
  | .cvtF64I32 => Sys2Proof.Machine.execCvtF64I32 s
  | .cvtF64F32 => Sys2Proof.Machine.execCvtF64F32 s
  | .cvtF64F64 => Sys2Proof.Machine.execCvtF64F64 s
  | .rawrdU8Le => Sys2Proof.Machine.execRawrdU8Le s
  | .rawrdU8Be => Sys2Proof.Machine.execRawrdU8Be s
  | .rawrdU16Le => Sys2Proof.Machine.execRawrdU16Le s
  | .rawrdU16Be => Sys2Proof.Machine.execRawrdU16Be s
  | .rawrdU24Le => Sys2Proof.Machine.execRawrdU24Le s
  | .rawrdU24Be => Sys2Proof.Machine.execRawrdU24Be s
  | .rawrdU32Le => Sys2Proof.Machine.execRawrdU32Le s
  | .rawrdU32Be => Sys2Proof.Machine.execRawrdU32Be s
  | .rawrdI8Le => Sys2Proof.Machine.execRawrdI8Le s
  | .rawrdI8Be => Sys2Proof.Machine.execRawrdI8Be s
  | .rawrdI16Le => Sys2Proof.Machine.execRawrdI16Le s
  | .rawrdI16Be => Sys2Proof.Machine.execRawrdI16Be s
  | .rawrdI24Le => Sys2Proof.Machine.execRawrdI24Le s
  | .rawrdI24Be => Sys2Proof.Machine.execRawrdI24Be s
  | .rawrdI32Le => Sys2Proof.Machine.execRawrdI32Le s
  | .rawrdI32Be => Sys2Proof.Machine.execRawrdI32Be s
  | .rawrdF32Le => Sys2Proof.Machine.execRawrdF32Le s
  | .rawrdF32Be => Sys2Proof.Machine.execRawrdF32Be s
  | .rawrdF64Le => Sys2Proof.Machine.execRawrdF64Le s
  | .rawrdF64Be => Sys2Proof.Machine.execRawrdF64Be s
  | .rawwrU8Le => Sys2Proof.Machine.execRawwrU8Le s
  | .rawwrU8Be => Sys2Proof.Machine.execRawwrU8Be s
  | .rawwrU16Le => Sys2Proof.Machine.execRawwrU16Le s
  | .rawwrU16Be => Sys2Proof.Machine.execRawwrU16Be s
  | .rawwrU24Le => Sys2Proof.Machine.execRawwrU24Le s
  | .rawwrU24Be => Sys2Proof.Machine.execRawwrU24Be s
  | .rawwrU32Le => Sys2Proof.Machine.execRawwrU32Le s
  | .rawwrU32Be => Sys2Proof.Machine.execRawwrU32Be s
  | .rawwrI8Le => Sys2Proof.Machine.execRawwrI8Le s
  | .rawwrI8Be => Sys2Proof.Machine.execRawwrI8Be s
  | .rawwrI16Le => Sys2Proof.Machine.execRawwrI16Le s
  | .rawwrI16Be => Sys2Proof.Machine.execRawwrI16Be s
  | .rawwrI24Le => Sys2Proof.Machine.execRawwrI24Le s
  | .rawwrI24Be => Sys2Proof.Machine.execRawwrI24Be s
  | .rawwrI32Le => Sys2Proof.Machine.execRawwrI32Le s
  | .rawwrI32Be => Sys2Proof.Machine.execRawwrI32Be s
  | .rawwrF32Le => Sys2Proof.Machine.execRawwrF32Le s
  | .rawwrF32Be => Sys2Proof.Machine.execRawwrF32Be s
  | .rawwrF64Le => Sys2Proof.Machine.execRawwrF64Le s
  | .rawwrF64Be => Sys2Proof.Machine.execRawwrF64Be s
  | .acquire => Sys2Proof.Machine.execAcquire s
  | .getU8 => Sys2Proof.Machine.execGetU8 s
  | .getU16 => Sys2Proof.Machine.execGetU16 s
  | .getU24 => Sys2Proof.Machine.execGetU24 s
  | .getU32 => Sys2Proof.Machine.execGetU32 s
  | .getI8 => Sys2Proof.Machine.execGetI8 s
  | .getI16 => Sys2Proof.Machine.execGetI16 s
  | .getI24 => Sys2Proof.Machine.execGetI24 s
  | .getI32 => Sys2Proof.Machine.execGetI32 s
  | .getF32 => Sys2Proof.Machine.execGetF32 s
  | .getF64 => Sys2Proof.Machine.execGetF64 s
  | .setU8 => Sys2Proof.Machine.execSetU8 s
  | .setU16 => Sys2Proof.Machine.execSetU16 s
  | .setU24 => Sys2Proof.Machine.execSetU24 s
  | .setU32 => Sys2Proof.Machine.execSetU32 s
  | .setI8 => Sys2Proof.Machine.execSetI8 s
  | .setI16 => Sys2Proof.Machine.execSetI16 s
  | .setI24 => Sys2Proof.Machine.execSetI24 s
  | .setI32 => Sys2Proof.Machine.execSetI32 s
  | .setF32 => Sys2Proof.Machine.execSetF32 s
  | .setF64 => Sys2Proof.Machine.execSetF64 s
  | .commit => Sys2Proof.Machine.execCommit s
  | .area => Sys2Proof.Machine.execArea s
  | .configure => Sys2Proof.Machine.execConfigure s
  | .invStart => Sys2Proof.Machine.execInvStart s
  | .invEnd => Sys2Proof.Machine.execInvEnd s
  | .rdreg => Sys2Proof.Machine.execRdreg s

end Sys2Proof.Machine
end

