-- ==== Sys2Proof/Machine/Step.lean ====
section
/-!
DEFINITION. One step: the next event from outside happens (60_exceptions.md R190, 70_reset_and_hazards.md R200). The
block fetches nothing (10_state.md R21): a transaction brings its command word with it (30_encoding.md R70).
-/

namespace Sys2Proof.Machine

/-- `Execute` (R184) on the transaction accepted in `s`. -/
def perform (s : State) : Host.Outcome State Fault Refusal :=
  match decode s.txn.cmd with
  | .command i => orAbandoned s (exec i s)
  | .illegal c => .next (illegalWord c s)

/-- One step: a transaction performed to its response, a reset, an act of the transport, or waiting. The order of
events is an input (log entry 1). -/
def step (s : State) : Host.Outcome State Fault Refusal :=
  match s.inbox with
  | [] => .next (waits s)
  | .transaction p t :: es => perform (accept p t es s)
  | .both t0 t1 :: es => perform (acceptBoth t0 t1 es s)
  | .reset :: es => .next (resetBlock { s with inbox := es })
  | .transport admits writes :: es => .next (transportAct admits writes { s with inbox := es })

/-- `s` with an instruction word presented next (R70): it stands on CMD of the next transaction, on the port R86 gives
its command by default, with the buses as they are there, or zero. A word is 32 bits (R83).
DEDUCED (log entries 8 and 18), safe. -/
def State.withFetchWord (s : State) (nbits w : Nat) : State :=
  { s with inbox := presentWord (BitVec.ofNat 32 (w % 2 ^ nbits)) s.inbox }

end Sys2Proof.Machine
end

