-- ==== Sys2Proof/Safety.lean ====
section
/-!
DEFINITION. What a claim says a run is like: the invariant of 10_state.md R42, the footprint of a section and the
transport's duty (20_memory.md R53, R54), the good end of a run (70_reset_and_hazards.md R215), and the number a
float datum stands for (00_scope.md R10).
-/

namespace Sys2Proof.Safety

open Sys2Proof.Machine

/-! ## The invariant -/

/-- What holds of every state a run from reset reaches. The fields a to g are R42's; the others say what R7, R25, R32,
R33, R38 and R182 say of the registers, and that buffer memory is held in its canonical form inside the space (R50). -/
structure StateInv (s : State) : Prop where
  /-- R42 a. -/
  acquired_active : s.curState = .acquired → s.invActive = true
  /-- R42 b. -/
  idle_granted : s.curState = .idle → s.granted = 0
  /-- R42 c: the grant may be below the window, never above it. -/
  granted_le : s.curState = .acquired → s.granted.toNat ≤ s.fcMax.toNat
  /-- R42 d. -/
  broken_idle : s.broken = true → s.curState = .idle
  /-- R42 e. -/
  active_locked : s.invActive = true → s.cfgLocked = true ∧ s.fcMin.toNat ≤ s.fcMax.toNat
  /-- R42 f, and its converse: the code 0 means no fault (R182). -/
  fault_cause : s.fault = true ↔ s.faultCause ≠ 0
  /-- R42 g (the format is one of the eighteen by its type). -/
  locked_channels : s.cfgLocked = true → 1 ≤ s.channels.toNat ∧ s.channels.toNat ≤ s.params.maxChannels
  /-- R25: 0 before CONFIGURE. -/
  unlocked_channels : s.cfgLocked = false → s.channels = 0
  /-- R33: while a section with frames is held there is one area per channel. -/
  areas_held : s.curState = .acquired → s.granted ≠ 0 → s.areas.length = s.channels.toNat
  /-- R33: at every other time the area file holds no value. -/
  areas_absent : s.curState = .idle ∨ s.granted = 0 → s.areas = []
  /-- R32: a base fits in ADDR_W bits. -/
  areas_base : ∀ a ∈ s.areas, a.base < 2 ^ s.params.addrW
  /-- The canonical form of buffer memory. -/
  mem_wf : Memory.wf s.mem
  /-- R50: buffer memory has no address outside [0, 2^ADDR_W). -/
  mem_space : ∀ c ∈ s.mem, c.1 < 2 ^ s.params.addrW
  /-- R38, R40: DISCARD_LAST is 0, 1 or 2. -/
  discard_last : s.discardLast ≠ 3
  /-- R7, R18: the parameters' ranges. -/
  params_ok : 1 ≤ s.params.maxChannels ∧ 1 ≤ s.params.addrW ∧ s.params.s24BeOffset ≤ 1

/-! ## The section's footprint and the transport's duty -/

/-- The address is a footprint byte of a section with these areas (R53): `SA(c, f) + k` for a channel `c`, a granted
frame `f` and a slot byte `k`. -/
def FootprintByte (areas : List Area) (granted slotWidth : Nat) (x : Int) : Prop :=
  ∃ a ∈ areas, ∃ f < granted, ∃ k < slotWidth, x = a.slotAddress f + (k : Nat)

/-- The admission half of the transport's duty (R54): while a section is held, every footprint byte lies in the space and
is admitted. -/
def SectionAdmitted (s : State) : Prop :=
  s.curState = .acquired →
    ∀ x, FootprintByte s.areas s.granted.toNat s.cfgFormat.slotWidth x → s.accessible x = true

/-- The duty in answering a grant (R54, R137): where the transport answers an ACQUIRE with OK, every byte of the granted
footprint lies in the space and is admitted by the answer. -/
def GrantDutiful (s : State) (t : Transaction) : Prop :=
  decode t.cmd = .command .acquire → t.grant.status = .ok →
    ∀ x, FootprintByte (grantedAreas s t.grant) (grantedFrames t.grant t.arg0) s.cfgFormat.slotWidth x →
      { s with admitted := t.grant.admits }.accessible x = true

/-- The duty when the transport acts while a section is held (R63, R211): it writes no footprint byte and keeps every
footprint byte admitted. -/
def LeavesSectionAlone (s : State) (admits : List Region) (writes : List Host.Cell) : Prop :=
  s.curState = .acquired →
    ∀ x, FootprintByte s.areas s.granted.toNat s.cfgFormat.slotWidth x →
      (∀ c ∈ writes, (c.1 : Int) ≠ x) ∧ { s with admitted := admits }.accessible x = true

/-- The transport keeps its duty in the next event. Of two transactions at once only P0's can be an ACQUIRE that asks it
(R191). -/
def NextDutiful (s : State) : Prop :=
  match s.inbox with
  | [] => True
  | .transaction _ t :: _ => GrantDutiful s t
  | .both t0 _ :: _ => GrantDutiful s t0
  | .reset :: _ => True
  | .transport admits writes :: _ => LeavesSectionAlone s admits writes

/-- The transport's whole duty at a state (R54, R63, R137, R211): a premise, which no step checks (log entry 10). That it
does not read the footprint either is nothing that the block could observe. -/
structure TransportDutiful (s : State) : Prop where
  /-- R54: the held footprint is admitted. -/
  section_admitted : SectionAdmitted s
  /-- R63, R211, R137: what the transport does next leaves a held footprint alone, and grants only what is admitted. -/
  next_dutiful : NextDutiful s

/-! ## Conditions under which a command is performed -/

/-- The checks GET and SET share all pass on P0 (R139, R142, R184, R185). -/
structure SampleReady (s : State) : Prop where
  no_fault : s.fault = false
  on_p0 : s.port = .p0
  active : s.invActive = true
  held : s.curState = .acquired
  channel : s.txn.arg0.toNat < s.channels.toNat
  frame : s.txn.arg1.toNat < s.granted.toNat

/-- ACQUIRE's checks all pass on P0 (R132, R184, R185). -/
structure AcquireReady (s : State) : Prop where
  no_fault : s.fault = false
  on_p0 : s.port = .p0
  active : s.invActive = true
  min_le : s.fcMin.toNat ≤ s.txn.arg0.toNat
  le_max : s.txn.arg0.toNat ≤ s.fcMax.toNat
  idle : s.curState = .idle

/-- CONFIGURE, INV_START and INV_END are looked at: not faulted, and on P1 (R184, R191). -/
structure LifecycleReady (s : State) : Prop where
  no_fault : s.fault = false
  on_p1 : s.port = .p1

/-- A cursor command is looked at: not faulted, and on P0 (R184, R191). -/
structure CallbackReady (s : State) : Prop where
  no_fault : s.fault = false
  on_p0 : s.port = .p0

/-- RAWOUT with every byte zero. -/
def zeroBytes : Vector Byte 8 :=
  #v[0, 0, 0, 0, 0, 0, 0, 0]

/-- A response with the two results, nothing on the raw bus (R72). -/
def replyWith (s : State) (st : Status) (res0 res1 : Bus) : Option Response :=
  some ⟨s.port, st, res0, res1, zeroBytes, 0⟩

/-- A response whose every field but the status is 0 (R72). -/
def statusReply (s : State) (st : Status) : Option Response :=
  replyWith s st 0 0

/-- What a fault raised in `s` leaves (R181): the fault record and the response; nothing else changes. -/
def faulted (s : State) (c : Cause) : State :=
  { s with
    fault := true
    faultCause := c.code
    faultWord := s.txn.cmd
    faultPort := s.port
    reply := statusReply s .faulted }

/-! ## The end of a run -/

/-- A run from `first` to `last` has ended well (R215): every presented transaction has received its response, so nothing
is still presented and no command was abandoned on the way (every other one that leaves the list is answered in the same
step); no command is stuck, as `last` was reached; and no fault, no invocation and no section remains. -/
def EndedWell (first last : State) : Prop :=
  last.inbox = [] ∧ last.abandoned = first.abandoned ∧ last.fault = false ∧ last.invActive = false ∧
    last.curState = .idle

/-! ## Numbers -/

/-- The number a finite datum stands for (R10). -/
def finValue (neg : Bool) (mant : Nat) (exp : Int) : ℚ :=
  signed neg mant * (2 : ℚ) ^ exp

/-- The pattern stands for the finite number `q`. -/
def HasValue (t : FloatFormat) (p : Nat) (q : ℚ) : Prop :=
  ∃ neg m e, t.num p = .fin neg m e ∧ finValue neg m e = q

/-- `r` is the finite number nearest to `q` in the format, one with an even significand where two are as near (R10). It
is `RNE(q)` wherever that does not overflow. -/
def NearestEven (t : FloatFormat) (q r : ℚ) : Prop :=
  ∃ p, HasValue t p r ∧
    ∀ (y : Nat) (v : ℚ), HasValue t y v →
      |r - q| ≤ |v - q| ∧ (v ≠ r → |r - q| = |v - q| → p % 2 = 0)

end Sys2Proof.Safety
end

