-- ==== Sys2Proof/Certificates/Slice0/Obligations.lean ====
section
/-!
DEFINITION. The statements for the provers. Each docstring names the rule of spec/ a statement formalises, or says that
it is derived. `Sys2Proof.Safety` holds the predicates they share.
-/

open Sys2Proof Sys2Proof.Machine Sys2Proof.Safety

/-! ## Encoding -/

/-- R71, R73, R74, R80, R83: a word decodes to a command exactly if it is that command's word, so that decoding an
encoding gives the command back and no second word does. -/
def Obligations.DecodeAnswersExactlyTheEncodedWord : Prop :=
  ∀ (w : Word) (i : Instr), decode w = .command i ↔ w = encode i

/-- R84, the pseudocode of Decode, on the word as a number. -/
def Obligations.DecodeChecksInTheOrderOfTheRule : Prop :=
  ∀ w : Word, ∀ opc ra rb e low : Nat,
    opc = w.toNat / 2 ^ 28 → ra = w.toNat / 2 ^ 24 % 16 → rb = w.toNat / 2 ^ 20 % 16 →
    e = w.toNat / 2 ^ 19 % 2 → low = w.toNat % 2 ^ 19 →
    ∀ usesRA usesRB usesE reserved badRep : Prop,
    (usesRA ↔ opc = 0 ∨ opc = 1 ∨ opc = 2 ∨ opc = 4 ∨ opc = 5) → (usesRB ↔ opc = 0) →
    (usesE ↔ opc = 1 ∨ opc = 2) →
    (reserved ↔ low ≠ 0 ∨ (¬usesRA ∧ ra ≠ 0) ∨ (¬usesRB ∧ rb ≠ 0) ∨ (¬usesE ∧ e ≠ 0)) →
    (badRep ↔ (usesRA ∧ 9 < ra) ∨ (usesRB ∧ 9 < rb)) →
    (12 ≤ opc → decode w = .illegal .illegalOpcode) ∧
    (opc < 12 → reserved → decode w = .illegal .reservedBits) ∧
    (opc < 12 → ¬reserved → badRep → decode w = .illegal .illegalRep) ∧
    (opc < 12 → ¬reserved → ¬badRep →
      ∃ i, decode w = .command i ∧
        i.command.fields = ⟨BitVec.ofNat 4 opc, BitVec.ofNat 4 ra, BitVec.ofNat 4 rb, BitVec.ofNat 1 e, 0⟩)

/-- R71, R73, R74, R86: a few words written out from the encoding, one of each family and a reserved one. -/
def Obligations.SampleWordsDecode : Prop :=
  decode 0x00400000 = .command .cvtU8I8 ∧ decode 0x09800000 = .command .cvtF64F32 ∧
  decode 0x16080000 = .command .rawrdI24Be ∧ decode 0x28000000 = .command .rawwrF32Le ∧
  decode 0x30000000 = .command .acquire ∧ decode 0x48000000 = .command .getF32 ∧
  decode 0x55000000 = .command .setI16 ∧ decode 0x60000000 = .command .commit ∧
  decode 0x70000000 = .command .area ∧ decode 0x80000000 = .command .configure ∧
  decode 0x90000000 = .command .invStart ∧ decode 0xA0000000 = .command .invEnd ∧
  decode 0xB0000000 = .command .rdreg ∧ decode 0x4A000001 = .illegal .reservedBits

/-- R76, R77: ARG0 names a format exactly at that format's code, whose bit 4 is the byte order and whose bits 3 to 0
are the wire representation's code; u8 and i8 have no big-endian code, and nothing from 0x20 on is a format. -/
def Obligations.FormatCodesAreRepresentationAndByteOrder : Prop :=
  (∀ (x : Bus) (f : Format), formatOfCode x = some f ↔ x.toNat = f.code.toNat) ∧
  (∀ f : Format, f.code.toNat = (repCode f.rep).toNat + (if f.be then 16 else 0)) ∧
  (∀ f : Format, f.rep.width = 8 → f.be = false)

/-! ## Steps, ports, faults -/

/-- R70, R184: a transaction whose word decodes to a command is performed by that command's meaning, in the state that
has accepted it; a command without a step stops the machine unless a reset is still to come. -/
def Obligations.StepRunsTheDecodedCommand : Prop :=
  ∀ (s s1 : State) (p : Port) (t : Transaction) (es : List Event) (i : Instr),
    s.inbox = .transaction p t :: es → decode t.cmd = .command i →
    s1 = { s with port := p, txn := t, inbox := es, reply := none } →
    (∀ u, exec i s1 = .next u → step s = .next u) ∧
    (∀ f, exec i s1 = .fault f → Event.reset ∉ es → step s = .fault f)

/-- R200, R215: a reset event while GET or SET is stuck abandons the command without a response, and the run does not
end well any more; every other transaction is answered. That what was presented before the reset still waits is the
model's reading (log entry 7, DEDUCED), and that an abandoned command is counted is the model's (log entry 20). -/
def Obligations.ResetAbandonsAStuckCommand : Prop :=
  (∀ (s s1 t : State) (p : Port) (x : Transaction) (es fs : List Event) (i : Instr) (f : Fault),
    s.inbox = .transaction p x :: (es ++ .reset :: fs) → Event.reset ∉ es → decode x.cmd = .command i →
    s1 = { s with port := p, txn := x, inbox := es ++ .reset :: fs, reply := none } →
    exec i s1 = .fault f →
    t = resetBlock { s1 with inbox := es ++ fs, abandoned := s.abandoned + 1 } →
    step s = .next t ∧ t.reply = none ∧
      ∀ (k : Nat) (u : State), Host.Core.run Sys2Proof.core k t = .next u → ¬EndedWell s u) ∧
  (∀ (s t : State) (p : Port) (x : Transaction) (es : List Event),
    s.inbox = .transaction p x :: es → step s = .next t →
    (t.reply ≠ none ∧ t.abandoned = s.abandoned) ∨ (t.reply = none ∧ t.abandoned = s.abandoned + 1))

/-- R184: a word that decodes to no command, in the order of its checks. -/
def Obligations.MalformedWordsFaultInOrder : Prop :=
  ∀ (s s1 : State) (p : Port) (t : Transaction) (es : List Event) (c : Illegal),
    s.inbox = .transaction p t :: es → decode t.cmd = .illegal c →
    s1 = { s with port := p, txn := t, inbox := es, reply := none } →
    (s.fault = true → step s = .next { s1 with reply := statusReply s1 .faulted }) ∧
    (s.fault = false → c = .illegalOpcode → step s = .next (faulted s1 .illegalOpcode)) ∧
    (s.fault = false → c ≠ .illegalOpcode →
      (3 ≤ t.cmd.toNat / 2 ^ 28 ∧ t.cmd.toNat / 2 ^ 28 ≤ 7 ∧ p = .p1) ∨
        (8 ≤ t.cmd.toNat / 2 ^ 28 ∧ t.cmd.toNat / 2 ^ 28 ≤ 10 ∧ p = .p0) →
      step s = .next (faulted s1 .wrongPort)) ∧
    (s.fault = false →
      ¬((3 ≤ t.cmd.toNat / 2 ^ 28 ∧ t.cmd.toNat / 2 ^ 28 ≤ 7 ∧ p = .p1) ∨
        (8 ≤ t.cmd.toNat / 2 ^ 28 ∧ t.cmd.toNat / 2 ^ 28 ≤ 10 ∧ p = .p0)) →
      (c = .reservedBits → step s = .next (faulted s1 .reservedBits)) ∧
      (c = .illegalRep → step s = .next (faulted s1 .illegalRep)))

/-- R190: two transactions presented at once are performed in one of the two orders. -/
def Obligations.SimultaneousTransactionsAreSerialized : Prop :=
  ∀ (s : State) (t0 t1 : Transaction) (es : List Event), s.inbox = .both t0 t1 :: es →
    step s = step { s with
      draws := s.draws + 1, inbox := .transaction .p0 t0 :: .transaction .p1 t1 :: es } ∨
    step s = step { s with
      draws := s.draws + 1, inbox := .transaction .p1 t1 :: .transaction .p0 t0 :: es }

/-- R181, R182: what raising a fault writes, and the code of each cause. -/
def Obligations.RaisingAFaultWritesOnlyTheRecord : Prop :=
  (∀ (c : Cause) (s : State),
    raiseFault c s =
      { s with
        fault := true, faultCause := c.code, faultWord := s.txn.cmd, faultPort := s.port,
        reply := some ⟨s.port, .faulted, 0, 0, zeroBytes, 0⟩ }) ∧
  Cause.code .illegalOpcode = 0x01 ∧ Cause.code .reservedBits = 0x02 ∧ Cause.code .illegalRep = 0x03 ∧
  Cause.code .wrongPort = 0x04 ∧ Cause.code .configLocked = 0x05 ∧ Cause.code .illegalFormat = 0x06 ∧
  Cause.code .badChannelCount = 0x07 ∧ Cause.code .notConfigured = 0x08 ∧ Cause.code .invocationActive = 0x09 ∧
  Cause.code .badWindow = 0x0A ∧ Cause.code .streamBroken = 0x0B ∧ Cause.code .noInvocation = 0x0C ∧
  Cause.code .frameCountOutOfRange = 0x0D ∧ Cause.code .doubleAcquire = 0x0E ∧ Cause.code .notAcquired = 0x0F ∧
  Cause.code .channelOutOfRange = 0x10 ∧ Cause.code .frameOutOfRange = 0x11 ∧ Cause.code .noArea = 0x12

/-- R183: while FAULT = 1 every command but RDREG is refused, with nothing touched but the response. -/
def Obligations.FaultedBlockRefusesEveryCommandButRdreg : Prop :=
  ∀ (i : Instr) (s : State), i ≠ .rdreg → s.fault = true →
    exec i s = .next { s with reply := statusReply s .faulted }

/-- R183, R186, R189: from a faulted state no transaction changes a register, the buffer memory or the fault record; only
the model's record of what is presented and answered moves on. -/
def Obligations.AFaultedBlockStaysAsItIs : Prop :=
  ∀ s s' : State, s.fault = true →
    (∃ p t es, s.inbox = .transaction p t :: es) ∨ (∃ t0 t1 es, s.inbox = .both t0 t1 :: es) →
    step s = .next s' →
    s' = { s with
      inbox := s'.inbox, port := s'.port, txn := s'.txn, reply := s'.reply, draws := s'.draws }

/-- R191: the commands of each port; one on a port not listed faults WRONG_PORT. -/
def Obligations.CommandsOnTheWrongPortFault : Prop :=
  ∀ s : State, s.fault = false →
    (s.port = .p1 →
      exec .acquire s = .next (faulted s .wrongPort) ∧ exec .commit s = .next (faulted s .wrongPort) ∧
      exec .area s = .next (faulted s .wrongPort) ∧
      ∀ r, exec (instrOf (.get r)) s = .next (faulted s .wrongPort) ∧
        exec (instrOf (.set r)) s = .next (faulted s .wrongPort)) ∧
    (s.port = .p0 →
      exec .configure s = .next (faulted s .wrongPort) ∧ exec .invStart s = .next (faulted s .wrongPort) ∧
      exec .invEnd s = .next (faulted s .wrongPort))

/-! ## Invariants of every step -/

/-- R42 (with R7, R25, R32, R33, R38, R50, R182 as `StateInv` names them): every step keeps the invariant. -/
def Obligations.EveryStepKeepsTheInvariant : Prop :=
  ∀ s s' : State, StateInv s → step s = .next s' → StateInv s'

/-- R42, R45: the invariant holds right after reset, and no section is held that would have to be admitted. The
parameters and the transport's part of State.reset are the model's choice (log entry 12). -/
def Obligations.TheInvariantHoldsAtReset : Prop :=
  StateInv State.reset ∧ SectionAdmitted State.reset

/-- R54, R63, R211: under a dutiful transport every step keeps the held footprint admitted, and what the transport does
while a section is held changes no footprint byte. The duty is a premise (log entry 10). -/
def Obligations.ADutifulTransportLeavesTheSectionAlone : Prop :=
  ∀ s s' : State, StateInv s → TransportDutiful s → step s = .next s' →
    SectionAdmitted s' ∧
    (∀ admits writes es, s.inbox = .transport admits writes :: es → s.curState = .acquired →
      ∀ x : Nat, FootprintByte s.areas s.granted.toNat s.cfgFormat.slotWidth x → s'.readByte x = s.readByte x)

/-- The model's canonical form of buffer memory (log entry 3) is kept by every step from every state. -/
def Obligations.EveryStepKeepsMemoryCanonical : Prop :=
  ∀ s s' : State, Memory.wf s.mem → step s = .next s' → Memory.wf s'.mem

/-- R26: while CFG_LOCKED = 1 no command writes CFG_FORMAT or CHANNELS, and a second CONFIGURE faults. -/
def Obligations.TheConfigurationIsImmutableOnceLocked : Prop :=
  (∀ (i : Instr) (s s' : State), s.cfgLocked = true → exec i s = .next s' →
    s'.cfgFormat = s.cfgFormat ∧ s'.channels = s.channels ∧ s'.cfgLocked = true) ∧
  (∀ s : State, LifecycleReady s → s.cfgLocked = true →
    exec .configure s = .next (faulted s .configLocked))

/-- R36, R29: no command clears BROKEN, and only INV_START writes the window, never during an invocation. -/
def Obligations.BrokenIsStickyAndTheWindowConstant : Prop :=
  ∀ (i : Instr) (s s' : State), exec i s = .next s' →
    (s.broken = true → s'.broken = true) ∧
    (s.invActive = true ∨ i ≠ .invStart → s'.fcMin = s.fcMin ∧ s'.fcMax = s.fcMax)

/-- R57, R64, R68: no command but SET and ACQUIRE changes a byte of buffer memory (an ACQUIRE with a section is the
point from which the transport's bytes stand there). -/
def Obligations.OnlySetAndAcquireChangeMemory : Prop :=
  ∀ (i : Instr) (s s' : State), i ≠ .acquire → (∀ r, i.command ≠ .set r) → exec i s = .next s' →
    ∀ a, s'.readByte a = s.readByte a

/-! ## Conversion -/

/-- R90 for all hundred CVT commands, on either port: what CVT answers, and that it writes no register and no byte. A
draw is counted where R107 makes one. -/
def Obligations.CvtAnswersTheConversion : Prop :=
  ∀ (a b : Rep) (s : State), s.fault = false →
    exec (instrOf (.cvt a b)) s = .next { s with
      reply := replyWith s .ok (bus b (conv a b (unbus a s.txn.arg0) s.draws)) 0,
      draws := s.draws + convDraws a b (unbus a s.txn.arg0) }

/-- R92: the identity class keeps every bit. -/
def Obligations.IdentityConversionKeepsEveryBit : Prop :=
  ∀ (r : Rep) (v k : Nat), conv r r v k = v ∧ convDraws r r v = 0

/-- R94: same width, different signedness: the half-range offset, as values and as patterns, and bijective. -/
def Obligations.SignFlipIsTheHalfRangeOffset : Prop :=
  ∀ (s d : Rep) (x : Bus) (k k' : Nat), s.isFloat = false → d.isFloat = false → s.width = d.width →
    s.isSigned ≠ d.isSigned →
    (s.isSigned = false → d.intOf (conv s d (unbus s x) k) = s.intOf (unbus s x) - 2 ^ (s.width - 1)) ∧
    (s.isSigned = true → d.intOf (conv s d (unbus s x) k) = s.intOf (unbus s x) + 2 ^ (s.width - 1)) ∧
    conv s d (unbus s x) k = unbus s x ^^^ 2 ^ (s.width - 1) ∧
    conv d s (conv s d (unbus s x) k) k' = unbus s x

/-- R95: same signedness, wider destination: multiplied by the power of two, in range. -/
def Obligations.WideningMultipliesByThePowerOfTwo : Prop :=
  ∀ (s d : Rep) (x : Bus) (k : Nat), s.isFloat = false → d.isFloat = false → s.isSigned = d.isSigned →
    s.width < d.width →
    d.intOf (conv s d (unbus s x) k) = s.intOf (unbus s x) * 2 ^ (d.width - s.width) ∧
    conv s d (unbus s x) k < 2 ^ d.width

/-- R96: same signedness, narrower destination: the top bits, which is the floor of the quotient. -/
def Obligations.NarrowingIsTheFloorOfTheQuotient : Prop :=
  ∀ (s d : Rep) (x : Bus) (k : Nat), s.isFloat = false → d.isFloat = false → s.isSigned = d.isSigned →
    d.width < s.width →
    conv s d (unbus s x) k = unbus s x / 2 ^ (s.width - d.width) ∧
    d.intOf (conv s d (unbus s x) k) = ⌊(s.intOf (unbus s x) : ℚ) / 2 ^ (s.width - d.width)⌋

/-- R97: different signedness and width: the floor formula for both directions, and equal to the sign flip composed with
the width change in either order. -/
def Obligations.CrossConversionComposesFlipAndWidth : Prop :=
  ∀ (s d : Rep) (x : Bus) (k : Nat), s.isFloat = false → d.isFloat = false → s.isSigned ≠ d.isSigned →
    s.width ≠ d.width →
    (s.isSigned = false → d.intOf (conv s d (unbus s x) k) =
      ⌊((s.intOf (unbus s x) : ℚ) - 2 ^ (s.width - 1)) * (2 : ℚ) ^ ((d.width : ℤ) - s.width)⌋) ∧
    (s.isSigned = true → d.intOf (conv s d (unbus s x) k) =
      ⌊((s.intOf (unbus s x) : ℚ) + 2 ^ (s.width - 1)) * (2 : ℚ) ^ ((d.width : ℤ) - s.width)⌋) ∧
    (∀ m : Rep, m.isFloat = false → m.isSigned = d.isSigned → m.width = s.width →
      conv s d (unbus s x) k = conv m d (conv s m (unbus s x) k) k) ∧
    (∀ m : Rep, m.isFloat = false → m.isSigned = s.isSigned → m.width = d.width →
      conv s d (unbus s x) k = conv m d (conv s m (unbus s x) k) k)

/-- R98: sign flips undo each other; narrowing undoes widening, across signedness too; and narrowing then widening
clears the low bits. -/
def Obligations.IntegerConversionsRoundTrip : Prop :=
  ∀ (s d : Rep) (x : Bus) (k k' : Nat), s.isFloat = false → d.isFloat = false →
    (s.width ≤ d.width → conv d s (conv s d (unbus s x) k) k' = unbus s x) ∧
    (d.width < s.width → s.isSigned = d.isSigned →
      conv d s (conv s d (unbus s x) k) k' =
        unbus s x - unbus s x % 2 ^ (s.width - d.width))

/-- R103: an integer becomes `q = (2x − (max+1) − min) / ((max+1) − min)`: exactly so in f64, and in f32 the f64
result rounded to binary32. -/
def Obligations.IntegerToFloatIsTheInverseMapRoundedOnce : Prop :=
  ∀ (s : Rep) (x : Bus) (k : Nat), s.isFloat = false →
    HasValue binary64 (conv s .f64 (unbus s x) k)
      ((2 * (s.intOf (unbus s x) : ℚ) - (s.maxInt + 1) - s.minInt) / ((s.maxInt + 1) - s.minInt)) ∧
    conv s .f32 (unbus s x) k = conv .f64 .f32 (conv s .f64 (unbus s x) k) k

/-- R104: the integer-to-float results at the ends and the middle of the range, for the least, the middle and the
greatest integer (the last as the f64 pattern of 1 − 2^−(W−1)); in f32 the greatest 32-bit integers give 1.0. -/
def Obligations.IntegerToFloatAtTheBoundaries : Prop :=
  ∀ (s : Rep) (k : Nat), s.isFloat = false →
    conv s .f32 (s.patternOf s.minInt) k = 0xBF800000 ∧
    conv s .f64 (s.patternOf s.minInt) k = 0xBFF0000000000000 ∧
    conv s .f32 (if s.isSigned then 0 else 2 ^ (s.width - 1)) k = 0 ∧
    conv s .f64 (if s.isSigned then 0 else 2 ^ (s.width - 1)) k = 0 ∧
    HasValue binary64 (conv s .f64 (s.patternOf s.maxInt) k) (1 - 1 / 2 ^ (s.width - 1)) ∧
    (s.width ≤ 24 → HasValue binary32 (conv s .f32 (s.patternOf s.maxInt) k) (1 - 1 / 2 ^ (s.width - 1))) ∧
    (s.width = 32 → conv s .f32 (s.patternOf s.maxInt) k = 0x3F800000)

/-- R101, R102: −1.0, both zeros, 1.0 and the infinities, from f32 and from f64, into every integer representation. -/
def Obligations.FloatToIntegerAtTheBoundaries : Prop :=
  ∀ (d : Rep) (k : Nat), d.isFloat = false →
    d.intOf (conv .f32 d 0xBF800000 k) = d.minInt ∧ d.intOf (conv .f64 d 0xBFF0000000000000 k) = d.minInt ∧
    conv .f32 d 0 k = (if d.isSigned then 0 else 2 ^ (d.width - 1)) ∧
    conv .f32 d 0x80000000 k = (if d.isSigned then 0 else 2 ^ (d.width - 1)) ∧
    conv .f64 d 0 k = (if d.isSigned then 0 else 2 ^ (d.width - 1)) ∧
    conv .f64 d 0x8000000000000000 k = (if d.isSigned then 0 else 2 ^ (d.width - 1)) ∧
    d.intOf (conv .f32 d 0x3F800000 k) = d.maxInt ∧ d.intOf (conv .f64 d 0x3FF0000000000000 k) = d.maxInt ∧
    d.intOf (conv .f32 d 0x7F800000 k) = d.maxInt ∧ d.intOf (conv .f64 d 0x7FF0000000000000 k) = d.maxInt ∧
    d.intOf (conv .f32 d 0xFF800000 k) = d.minInt ∧ d.intOf (conv .f64 d 0xFFF0000000000000 k) = d.minInt

/-- R16, R102: a finite float of magnitude 1 or more saturates and never wraps. -/
def Obligations.FloatToIntegerSaturates : Prop :=
  ∀ (s d : Rep) (x : Bus) (k : Nat) (q : ℚ), s.isFloat = true → d.isFloat = false →
    HasValue (floatFormat s) (unbus s x) q →
    (1 ≤ q → d.intOf (conv s d (unbus s x) k) = d.maxInt) ∧
    (q ≤ -1 → d.intOf (conv s d (unbus s x) k) = d.minInt)

/-- R101, R10: on [−1, 1) a float that is a multiple of 2^−52 goes through the formula without rounding, so that the
result is the exact map of R100 truncated toward zero. -/
def Obligations.FloatToIntegerTruncatesTheExactMap : Prop :=
  ∀ (s d : Rep) (x : Bus) (k : Nat) (q m : ℚ) (n : ℤ), s.isFloat = true → d.isFloat = false →
    HasValue (floatFormat s) (unbus s x) q → -1 ≤ q → q < 1 → q * 2 ^ 52 = n →
    m = (if d.isSigned then q * 2 ^ (d.width - 1) else (q + 1) * 2 ^ (d.width - 1)) →
    d.intOf (conv s d (unbus s x) k) = if 0 ≤ m then ⌊m⌋ else ⌈m⌉

/-- R101, R102, R10: for every finite float up to 2^900 in magnitude the result is the formula with each binary64
operation rounded to nearest even, in the order of the rule, then clamped, then truncated toward zero; and R102's corner
where the rounding shows. -/
def Obligations.FloatToIntegerRoundsEachOperation : Prop :=
  (∀ (s d : Rep) (x : Bus) (k : Nat) (v : ℚ), s.isFloat = true → d.isFloat = false →
    HasValue (floatFormat s) (unbus s x) v → |v| ≤ 2 ^ 900 →
    ∃ t1 t3 t4 t5 t6 y c : ℚ,
      NearestEven binary64 (v + 1) t1 ∧ NearestEven binary64 (t1 * (d.maxInt + 1)) t3 ∧
      NearestEven binary64 (1 - v) t4 ∧ NearestEven binary64 (t4 * d.minInt) t5 ∧
      NearestEven binary64 (t3 + t5) t6 ∧ NearestEven binary64 (1 / 2 * t6) y ∧
      c = max (d.minInt : ℚ) (min (d.maxInt : ℚ) y) ∧
      d.intOf (conv s d (unbus s x) k) = if 0 ≤ c then ⌊c⌋ else ⌈c⌉) ∧
  ∀ k : Nat, conv .f64 .i8 0x3FDFFFFFFFFFFFFF k = 64

/-- R110: every integer of up to 24 bits survives the way through f32 and every integer the way through f64; through f32
some 32-bit integers do not. -/
def Obligations.IntegersSurviveTheRoundTripThroughFloat : Prop :=
  ∀ r : Rep, r.isFloat = false →
    (∀ (x : Bus) (k k' : Nat), conv .f64 r (conv r .f64 (unbus r x) k) k' = unbus r x) ∧
    (∀ (x : Bus) (k k' : Nat), r.width ≤ 24 → conv .f32 r (conv r .f32 (unbus r x) k) k' = unbus r x) ∧
    (r.width = 32 → ∃ x : Bus, ∀ k k' : Nat, conv .f32 r (conv r .f32 (unbus r x) k) k' ≠ unbus r x)

/-- R105: f32 to f64 keeps infinities and the exact value with its sign; a NaN gives some NaN. -/
def Obligations.F32ToF64IsExact : Prop :=
  ∀ (x : Bus) (k : Nat),
    (∀ n, binary32.num (unbus .f32 x) = .inf n → binary64.num (conv .f32 .f64 (unbus .f32 x) k) = .inf n) ∧
    (∀ n m e, binary32.num (unbus .f32 x) = .fin n m e →
      ∃ m' e', binary64.num (conv .f32 .f64 (unbus .f32 x) k) = .fin n m' e' ∧
        finValue n m' e' = finValue n m e) ∧
    (binary32.num (unbus .f32 x) = .nan → binary64.num (conv .f32 .f64 (unbus .f32 x) k) = .nan)

/-- R106, R10: f64 to f32 keeps the sign, clamps to FLT_MAX, infinities included, and otherwise answers a nearest finite
f32 value, with an even significand where a second one is as near. -/
def Obligations.F64ToF32ClampsAndRoundsToNearest : Prop :=
  ∀ (x : Bus) (k : Nat),
    (binary64.num (unbus .f64 x) = .inf false → conv .f64 .f32 (unbus .f64 x) k = 0x7F7FFFFF) ∧
    (binary64.num (unbus .f64 x) = .inf true → conv .f64 .f32 (unbus .f64 x) k = 0xFF7FFFFF) ∧
    (∀ q, HasValue binary64 (unbus .f64 x) q →
      (((2 ^ 24 - 1) * 2 ^ 104 : ℚ) < q → conv .f64 .f32 (unbus .f64 x) k = 0x7F7FFFFF) ∧
      (q < -((2 ^ 24 - 1) * 2 ^ 104 : ℚ) → conv .f64 .f32 (unbus .f64 x) k = 0xFF7FFFFF) ∧
      (-((2 ^ 24 - 1) * 2 ^ 104 : ℚ) ≤ q → q ≤ ((2 ^ 24 - 1) * 2 ^ 104 : ℚ) →
        ∃ r, HasValue binary32 (conv .f64 .f32 (unbus .f64 x) k) r ∧
          ∀ (y : Nat) (v : ℚ), HasValue binary32 y v →
            |r - q| ≤ |v - q| ∧
            (v ≠ r → |r - q| = |v - q| → conv .f64 .f32 (unbus .f64 x) k % 2 = 0))) ∧
    (binary64.num (unbus .f64 x) ≠ .nan → conv .f64 .f32 (unbus .f64 x) k / 2 ^ 31 = unbus .f64 x / 2 ^ 63)

/-- R90, R102, R107: a draw is made exactly for a NaN converted to an integer or to the other float. -/
def Obligations.OnlyNanInputsMakeADraw : Prop :=
  ∀ (s d : Rep) (x : Bus),
    (s.isFloat = true ∧ s ≠ d ∧ (floatFormat s).num (unbus s x) = .nan → convDraws s d (unbus s x) = 1) ∧
    (¬(s.isFloat = true ∧ s ≠ d ∧ (floatFormat s).num (unbus s x) = .nan) → convDraws s d (unbus s x) = 0)

/-- R9, R12, R78, R107: the ten representations' widths and ranges; what a bus carries into the block and out of it; and
every conversion of a bus value, a draw included, is a pattern of the destination's width, which the result bus carries
back to itself. -/
def Obligations.ConversionsStayInTheDestinationsRange : Prop :=
  ([.u8, .u16, .u24, .u32, .i8, .i16, .i24, .i32, .f32, .f64] : List Rep).map (fun r => (r.width, r.rawWidth)) =
    [(8, 1), (16, 2), (24, 3), (32, 4), (8, 1), (16, 2), (24, 3), (32, 4), (32, 4), (64, 8)] ∧
  (∀ r : Rep, (r.isSigned = true ↔ r = .i8 ∨ r = .i16 ∨ r = .i24 ∨ r = .i32) ∧
    (r.isFloat = true ↔ r = .f32 ∨ r = .f64) ∧
    (r.isFloat = false → r.minInt = (if r.isSigned then -2 ^ (r.width - 1) else 0) ∧
      r.maxInt = (if r.isSigned then 2 ^ (r.width - 1) - 1 else 2 ^ r.width - 1))) ∧
  (∀ (r : Rep) (x : Bus), unbus r x = x.toNat % 2 ^ r.width) ∧
  (∀ (r : Rep) (p : Nat), p < 2 ^ r.width →
    (r.isSigned = false → (bus r p).toNat = p ∧ r.intOf p = p) ∧
    (r.isSigned = true → (bus r p).toInt = (if 2 ^ (r.width - 1) ≤ p then (p : Int) - 2 ^ r.width else p) ∧
      r.intOf p = (bus r p).toInt)) ∧
  (∀ (s d : Rep) (x : Bus) (k : Nat),
    conv s d (unbus s x) k < 2 ^ d.width ∧
    unbus d (bus d (conv s d (unbus s x) k)) = conv s d (unbus s x) k)

/-! ## Raw windows -/

/-- R122 for all twenty RAWRD commands, on either port. -/
def Obligations.RawrdAnswersTheDecodedWindow : Prop :=
  ∀ (r : Rep) (be : Bool) (s : State), s.fault = false →
    exec (instrOf (.rawrd r be)) s = .next { s with
      reply := replyWith s .ok (bus r (rawDecode r be (s.txn.rawin.toList.take r.rawWidth))) 0 }

/-- R123, R79 for all twenty RAWWR commands, on either port: RAWOUT[i] is the window's byte i, and 0 past it. -/
def Obligations.RawwrAnswersTheEncodedWindow : Prop :=
  ∀ (r : Rep) (be : Bool) (s : State), s.fault = false →
    ∃ out : Vector Byte 8,
      exec (instrOf (.rawwr r be)) s =
        .next { s with reply := some ⟨s.port, .ok, 0, 0, out, r.rawWidth⟩ } ∧
      ∀ i : Fin 8, out[i] = (rawEncode r be (unbus r s.txn.arg0)).getD i 0

/-- R120: a window decodes to the sum of its bytes weighted by the byte order, for every representation. -/
def Obligations.RawDecodeIsTheWeightedSum : Prop :=
  ∀ (r : Rep) (b : List Byte), b.length = r.rawWidth →
    rawDecode r false b = ∑ i ∈ Finset.range r.rawWidth, (b.getD i 0).toNat * 2 ^ (8 * i) ∧
    rawDecode r true b = ∑ i ∈ Finset.range r.rawWidth, (b.getD i 0).toNat * 2 ^ (8 * (r.rawWidth - 1 - i))

/-- R121: the bytes of an encoded value in each byte order, exactly RW(r) of them. -/
def Obligations.RawEncodeListsTheBytes : Prop :=
  ∀ (r : Rep) (p : Nat),
    (rawEncode r false p).length = r.rawWidth ∧ (rawEncode r true p).length = r.rawWidth ∧
    ∀ i, i < r.rawWidth →
      ((rawEncode r false p).getD i 0).toNat = p / 2 ^ (8 * i) % 256 ∧
      ((rawEncode r true p).getD i 0).toNat = p / 2 ^ (8 * (r.rawWidth - 1 - i)) % 256

/-- R127: decoding undoes encoding and encoding undoes decoding, and the big-endian window is the little-endian one
reversed. -/
def Obligations.RawWindowsRoundTrip : Prop :=
  ∀ (r : Rep) (be : Bool),
    (∀ x : Bus, rawDecode r be (rawEncode r be (unbus r x)) = unbus r x) ∧
    (∀ b : List Byte, b.length = r.rawWidth → rawEncode r be (rawDecode r be b) = b) ∧
    (∀ x : Bus, rawEncode r true (unbus r x) = (rawEncode r false (unbus r x)).reverse)

/-! ## The cursor -/

/-- R132, R135, R138: an ACQUIRE that the transport answers OK takes the section; areas come only with frames, one per
channel. How the transport's answer stands in the model is its choice (log entry 9, DESIGN CHOICE): the grant as the
lesser of the request and what the answer has, `grantedAreas` (an area that the answer lists with a base in range is
loaded as it is), the answer's admissions, and the bytes of it that lie in the space. That the known bytes outside the
footprint stay is DEDUCED (log entry 4). -/
def Obligations.AcquireTakesTheGrantedSection : Prop :=
  ∀ (s : State) (a : Nat), AcquireReady s → s.broken = false → s.txn.grant.status = .ok →
    a = min s.txn.grant.frames s.txn.arg0.toNat →
    (a = 0 → exec .acquire s = .next { s with
      curState := .acquired, granted := 0, reply := replyWith s .ok 0 0 }) ∧
    (0 < a → exec .acquire s = .next { s with
      curState := .acquired, granted := BitVec.ofNat 32 a, areas := grantedAreas s s.txn.grant,
      admitted := s.txn.grant.admits, epoch := s.epoch + 1,
      mem := Memory.writeAll
        (s.mem.filter fun c => !inFootprint (grantedAreas s s.txn.grant) a s.cfgFormat.slotWidth c.1)
        (s.inSpace s.txn.grant.bytes),
      reply := replyWith s .ok (BitVec.ofNat 64 a) 0 }) ∧
    (grantedAreas s s.txn.grant).length = s.channels.toNat ∧
    (∀ (c : Nat) (ar : Area), c < s.channels.toNat → s.txn.grant.areas[c]? = some ar →
      ar.base < 2 ^ s.params.addrW → (grantedAreas s s.txn.grant)[c]? = some ar)

/-- R62: from an acquire point with a section on, a footprint byte that the transport does not make known is a free draw
of this acquire point. The known bytes outside the footprint stay (log entry 4). -/
def Obligations.AcquirePointGivesTheFootprintToTheTransport : Prop :=
  ∀ (s t : State) (x : Nat), AcquireReady s → s.broken = false → s.txn.grant.status = .ok →
    0 < s.txn.grant.frames → 0 < s.txn.arg0.toNat → exec .acquire s = .next t →
    (∀ c ∈ s.txn.grant.bytes, c.1 ≠ x) →
    (FootprintByte t.areas t.granted.toNat t.cfgFormat.slotWidth x →
      t.readByte x = Config.bufferByte (s.epoch + 1) x) ∧
    (¬FootprintByte t.areas t.granted.toNat t.cfgFormat.slotWidth x →
      Memory.read t.mem x = Memory.read s.mem x)

/-- R134, R136: while BROKEN = 1 an ACQUIRE that passes its checks answers FATAL, whatever the transport would say; on
an unbroken stream it reports the transport's error. -/
def Obligations.AcquireReportsABrokenStreamAndAFailedGrant : Prop :=
  ∀ s : State, AcquireReady s →
    (s.broken = true → exec .acquire s = .next { s with reply := statusReply s .fatal }) ∧
    (s.broken = false → s.txn.grant.status = .recoverable →
      exec .acquire s = .next { s with reply := statusReply s .recoverable }) ∧
    (s.broken = false → s.txn.grant.status = .fatal →
      exec .acquire s = .next { s with broken := true, reply := statusReply s .fatal })

/-- R133, R185: ACQUIRE's checks in their order. -/
def Obligations.AcquireFaultsInOrder : Prop :=
  ∀ s : State, CallbackReady s →
    (s.invActive = false → exec .acquire s = .next (faulted s .noInvocation)) ∧
    (s.invActive = true → s.txn.arg0.toNat < s.fcMin.toNat ∨ s.fcMax.toNat < s.txn.arg0.toNat →
      exec .acquire s = .next (faulted s .frameCountOutOfRange)) ∧
    (s.invActive = true → s.fcMin.toNat ≤ s.txn.arg0.toNat → s.txn.arg0.toNat ≤ s.fcMax.toNat →
      s.curState = .acquired → exec .acquire s = .next (faulted s .doubleAcquire))

/-- R139 for all ten GET commands: the bytes at SA + SlotOffset, decoded as the wire format says and converted. No
register and no byte is written; a draw is counted where the conversion makes one. -/
def Obligations.GetAnswersTheStoredSample : Prop :=
  ∀ (r : Rep) (s : State) (a : Area) (w : Nat), SampleReady s → s.areas[s.txn.arg0.toNat]? = some a →
    (∀ x ∈ s.windowAddresses a s.txn.arg1.toNat, s.accessible x = true) →
    w = rawDecode s.cfgFormat.rep s.cfgFormat.be
      ((s.windowAddresses a s.txn.arg1.toNat).map fun x => s.readByte x.toNat) →
    exec (instrOf (.get r)) s = .next { s with
      reply := replyWith s .ok (bus r (conv s.cfgFormat.rep r w s.draws)) 0,
      draws := s.draws + convDraws s.cfgFormat.rep r w }

/-- R142, R57 for all ten SET commands: the bytes of the converted value stand at SA + SlotOffset in ascending order,
every other byte reads as before, and nothing else changes. -/
def Obligations.SetWritesTheConvertedSample : Prop :=
  ∀ (r : Rep) (s : State) (a : Area) (w : Nat), SampleReady s → s.areas[s.txn.arg0.toNat]? = some a →
    (∀ x ∈ s.windowAddresses a s.txn.arg1.toNat, s.accessible x = true) →
    w = conv r s.cfgFormat.rep (unbus r s.txn.arg2) s.draws →
    ∃ m, exec (instrOf (.set r)) s = .next { s with
        mem := m, reply := statusReply s .ok,
        draws := s.draws + convDraws r s.cfgFormat.rep (unbus r s.txn.arg2) } ∧
      (∀ i, i < s.cfgFormat.rep.rawWidth →
        Memory.read m (s.windowAddress a s.txn.arg1.toNat + (i : Nat)).toNat =
          some ((rawEncode s.cfgFormat.rep s.cfgFormat.be w).getD i 0)) ∧
      (∀ x : Nat, (x : Int) ∉ s.windowAddresses a s.txn.arg1.toNat →
        Memory.read m x = Memory.read s.mem x)

/-- R61, R213: a GET of the slot a SET has just written answers the converted written value, whatever transaction
brings it and whatever representations the two commands use. -/
def Obligations.GetAfterSetReturnsTheWrittenSample : Prop :=
  ∀ (r r' : Rep) (s t : State) (g : Transaction) (k : Nat), SampleReady s →
    exec (instrOf (.set r)) s = .next t → g.arg0 = s.txn.arg0 → g.arg1 = s.txn.arg1 →
    ∃ u, exec (instrOf (.get r')) { t with txn := g, draws := k } = .next u ∧
      u.reply = replyWith s .ok
        (bus r' (conv s.cfgFormat.rep r' (conv r s.cfgFormat.rep (unbus r s.txn.arg2) s.draws) k)) 0

/-- R185 for GET and SET: the shared checks in their order. -/
def Obligations.SampleAccessesFaultInOrder : Prop :=
  ∀ (r : Rep) (i : Instr) (s : State), i = instrOf (.get r) ∨ i = instrOf (.set r) → CallbackReady s →
    (s.invActive = false → exec i s = .next (faulted s .noInvocation)) ∧
    (s.invActive = true → s.curState = .idle → exec i s = .next (faulted s .notAcquired)) ∧
    (s.invActive = true → s.curState = .acquired → s.channels.toNat ≤ s.txn.arg0.toNat →
      exec i s = .next (faulted s .channelOutOfRange)) ∧
    (s.invActive = true → s.curState = .acquired → s.txn.arg0.toNat < s.channels.toNat →
      s.granted.toNat ≤ s.txn.arg1.toNat → exec i s = .next (faulted s .frameOutOfRange))

/-- R55, R143: a GET or SET with a window byte outside the space or not admitted has no step. -/
def Obligations.SampleAccessOffAdmittedMemoryIsStuck : Prop :=
  ∀ (r : Rep) (i : Instr) (s : State) (a : Area) (x : Int), i = instrOf (.get r) ∨ i = instrOf (.set r) →
    SampleReady s → s.areas[s.txn.arg0.toNat]? = some a → x ∈ s.windowAddresses a s.txn.arg1.toNat →
    x < 0 ∨ 2 ^ s.params.addrW ≤ x ∨ s.admits x.toNat = false →
    exec i s = .fault .stuckAccess

/-- R53, R54, R137: where the transport keeps its duty, no GET and no SET of a section is stuck: it ends with a response
(derived: a window lies in its slot, and a slot in the footprint). -/
def Obligations.NoSampleAccessIsStuckUnderADutifulTransport : Prop :=
  ∀ (r : Rep) (i : Instr) (s : State), i = instrOf (.get r) ∨ i = instrOf (.set r) → StateInv s → SampleReady s →
    SectionAdmitted s → ∃ t, exec i s = .next t ∧ t.reply ≠ none

/-- R27, R53, R141: the slot is 4 bytes for the 24-bit formats and the window's bytes otherwise; the window starts
s24_be_offset into it exactly for u24be (code 0x12) and i24be (0x16); its address is base + frame * stride + that offset,
exact and signed; and the model's test for a footprint byte agrees with the set of R53. -/
def Obligations.TheFootprintTestIsTheRulesSet : Prop :=
  (∀ f : Format, f.slotWidth = if f.rep = .u24 ∨ f.rep = .i24 then 4 else f.rep.rawWidth) ∧
  (∀ (f : Format) (p : Params), f.slotOffset p = if f = .u24be ∨ f = .i24be then p.s24BeOffset else 0) ∧
  Format.code .u24be = 0x12 ∧ Format.code .i24be = 0x16 ∧
  (∀ (s : State) (a : Area) (f : Nat),
    a.slotAddress f = (a.base : Int) + f * a.stride.toInt ∧
    s.windowAddress a f = (a.base : Int) + f * a.stride.toInt +
      (if s.cfgFormat = .u24be ∨ s.cfgFormat = .i24be then (s.params.s24BeOffset : Int) else 0) ∧
    s.windowAddresses a f =
      (List.range s.cfgFormat.rep.rawWidth).map fun i : Nat => s.windowAddress a f + (i : Int)) ∧
  ∀ (areas : List Area) (granted slotWidth x : Nat),
    inFootprint areas granted slotWidth x = true ↔ FootprintByte areas granted slotWidth x

/-- R144, R145, R146: COMMIT of a held section releases it whatever the transport answers; frames are counted, up to
2^64 − 1, only on OK, and FATAL breaks the stream. In Idle it is a no-op, even on a broken stream; outside an invocation
it faults. -/
def Obligations.CommitReleasesTheSection : Prop :=
  ∀ s : State, CallbackReady s →
    (s.invActive = true → s.curState = .acquired →
      exec .commit s = .next { s with
        curState := .idle, granted := 0, areas := [],
        committedTotal :=
          if s.txn.commit = .ok then
            BitVec.ofNat 64 (min (s.committedTotal.toNat + s.granted.toNat) (2 ^ 64 - 1))
          else s.committedTotal,
        broken := s.broken || decide (s.txn.commit = .fatal),
        reply := statusReply s (match s.txn.commit with
          | .ok => .ok
          | .recoverable => .recoverable
          | .fatal => .fatal) }) ∧
    (s.invActive = true → s.curState = .idle → exec .commit s = .next { s with reply := statusReply s .ok }) ∧
    (s.invActive = false → exec .commit s = .next (faulted s .noInvocation))

/-- R147: what AREA answers, and its checks in their order. A base of more than 64 bits answers a free value (log entry
11). -/
def Obligations.AreaAnswersTheLoadedArea : Prop :=
  ∀ s : State, CallbackReady s →
    (∀ a, s.invActive = true → s.curState = .acquired → s.granted ≠ 0 →
      s.txn.arg0.toNat < s.channels.toNat → s.areas[s.txn.arg0.toNat]? = some a →
      ∃ v : Bus, exec .area s = .next { s with reply := replyWith s .ok v a.stride } ∧
        (a.base < 2 ^ 64 → v.toNat = a.base)) ∧
    (s.invActive = false → exec .area s = .next (faulted s .noInvocation)) ∧
    (s.invActive = true → s.curState = .idle → exec .area s = .next (faulted s .notAcquired)) ∧
    (s.invActive = true → s.curState = .acquired → s.granted = 0 →
      exec .area s = .next (faulted s .noArea)) ∧
    (s.invActive = true → s.curState = .acquired → s.granted ≠ 0 →
      s.channels.toNat ≤ s.txn.arg0.toNat → exec .area s = .next (faulted s .channelOutOfRange))

/-! ## Lifecycle and status -/

/-- R160: CONFIGURE's effect, and its checks in their order; ARG0 and ARG1 are compared at full width. -/
def Obligations.ConfigureFixesFormatAndChannels : Prop :=
  ∀ s : State, LifecycleReady s →
    (∀ f : Format, s.cfgLocked = false → s.txn.arg0.toNat = f.code.toNat → 1 ≤ s.txn.arg1.toNat →
      s.txn.arg1.toNat ≤ s.params.maxChannels →
      exec .configure s = .next { s with
        cfgFormat := f, channels := s.txn.arg1, cfgLocked := true, reply := statusReply s .ok }) ∧
    (s.cfgLocked = true → exec .configure s = .next (faulted s .configLocked)) ∧
    (s.cfgLocked = false → (∀ f : Format, s.txn.arg0.toNat ≠ f.code.toNat) →
      exec .configure s = .next (faulted s .illegalFormat)) ∧
    (∀ f : Format, s.cfgLocked = false → s.txn.arg0.toNat = f.code.toNat →
      s.txn.arg1.toNat < 1 ∨ s.params.maxChannels < s.txn.arg1.toNat →
      exec .configure s = .next (faulted s .badChannelCount))

/-- R163, R164: INV_START's effect, and its checks in their order. -/
def Obligations.InvStartOpensAnInvocation : Prop :=
  ∀ s : State, LifecycleReady s →
    (s.cfgLocked = true → s.invActive = false → s.broken = false → s.txn.arg0.toNat ≤ s.txn.arg1.toNat →
      s.txn.arg1.toNat < 2 ^ 32 →
      exec .invStart s = .next { s with
        invActive := true, fcMin := BitVec.ofNat 32 s.txn.arg0.toNat,
        fcMax := BitVec.ofNat 32 s.txn.arg1.toNat, curState := .idle, granted := 0,
        committedTotal := 0, shortfall := false, reply := statusReply s .ok }) ∧
    (s.cfgLocked = false → exec .invStart s = .next (faulted s .notConfigured)) ∧
    (s.cfgLocked = true → s.invActive = true → exec .invStart s = .next (faulted s .invocationActive)) ∧
    (s.cfgLocked = true → s.invActive = false → s.broken = true →
      exec .invStart s = .next (faulted s .streamBroken)) ∧
    (s.cfgLocked = true → s.invActive = false → s.broken = false →
      s.txn.arg1.toNat < s.txn.arg0.toNat ∨ 2 ^ 32 ≤ s.txn.arg1.toNat →
      exec .invStart s = .next (faulted s .badWindow))

/-- R165, R166, R167: INV_END of a held section commits it; STATUS is OK whatever the transport answers, and an answer
other than OK goes to the side channel. In Idle it asks the transport nothing. Both record the shortfall; outside an
invocation it faults. -/
def Obligations.InvEndCommitsImplicitly : Prop :=
  ∀ s : State, LifecycleReady s →
    (∀ total : Nat, s.invActive = true → s.curState = .acquired →
      total = (if s.txn.commit = .ok then min (s.committedTotal.toNat + s.granted.toNat) (2 ^ 64 - 1)
        else s.committedTotal.toNat) →
      exec .invEnd s = .next { s with
        curState := .idle, granted := 0, areas := [], committedTotal := BitVec.ofNat 64 total,
        broken := s.broken || decide (s.txn.commit = .fatal),
        discardLast := (match s.txn.commit with
          | .ok => s.discardLast
          | .recoverable => 1
          | .fatal => 2),
        discardCount :=
          if s.txn.commit = .ok then s.discardCount
          else BitVec.ofNat 32 (min (s.discardCount.toNat + 1) (2 ^ 32 - 1)),
        shortfall := decide (total < s.fcMin.toNat), invActive := false,
        reply := statusReply s .ok }) ∧
    (s.invActive = true → s.curState = .idle →
      exec .invEnd s = .next { s with
        invActive := false, shortfall := decide (s.committedTotal.toNat < s.fcMin.toNat),
        reply := statusReply s .ok }) ∧
    (s.invActive = false → exec .invEnd s = .next (faulted s .noInvocation))

/-- R40, R168, R169: RDREG answers, in every state and on either port, the register of the map, and changes nothing. -/
def Obligations.RdregReadsTheRegisterMap : Prop :=
  ∀ s : State, ∃ v : Bus, exec .rdreg s = .next { s with reply := replyWith s .ok v 0 } ∧
    (s.txn.arg0.toNat = 0 → v.toNat = s.cfgFormat.code.toNat + 2 ^ 8 * s.cfgLocked.toNat) ∧
    (s.txn.arg0.toNat = 1 → v = s.channels) ∧
    (s.txn.arg0.toNat = 2 → v.toNat = s.invActive.toNat + 2 * (decide (s.curState = .acquired)).toNat +
      4 * s.broken.toNat + 8 * s.fault.toNat + 16 * s.shortfall.toNat) ∧
    (s.txn.arg0.toNat = 3 → v.toNat = s.fcMin.toNat) ∧
    (s.txn.arg0.toNat = 4 → v.toNat = s.fcMax.toNat) ∧
    (s.txn.arg0.toNat = 5 → v.toNat = s.granted.toNat) ∧
    (s.txn.arg0.toNat = 6 → v = s.committedTotal) ∧
    (s.txn.arg0.toNat = 7 → v.toNat = s.faultCause.toNat + 2 ^ 8 * (decide (s.faultPort = .p1)).toNat) ∧
    (s.txn.arg0.toNat = 8 → v.toNat = s.faultWord.toNat) ∧
    (s.txn.arg0.toNat = 9 → v.toNat = s.discardLast.toNat) ∧
    (s.txn.arg0.toNat = 10 → v.toNat = s.discardCount.toNat) ∧
    (11 ≤ s.txn.arg0.toNat → v = 0)

/-- R45, R200, R204: the reset event puts every register at its reset value, leaves buffer memory, and drops a held
section with no trace in the side channel. That what is presented after it still waits is the model's choice (log entry
12), and so are the empty response of a step that gives none (log entry 16) and the kept count of abandoned commands (log
entries 12 and 20). -/
def Obligations.TheResetEventRestoresEveryRegister : Prop :=
  ∀ (s t : State) (es : List Event), s.inbox = .reset :: es → t = resetBlock { s with inbox := es } →
    step s = .next t ∧ t.inbox = es ∧ t.reply = none ∧ t.mem = s.mem ∧ t.abandoned = s.abandoned ∧
    (∀ x, t.readByte x = s.readByte x) ∧
    t.cfgFormat.code = 0 ∧ t.cfgLocked = false ∧ t.channels = 0 ∧ t.invActive = false ∧
    t.fcMin = 0 ∧ t.fcMax = 0 ∧ t.curState = .idle ∧ t.granted = 0 ∧ t.areas = [] ∧ t.committedTotal = 0 ∧
    t.shortfall = false ∧ t.broken = false ∧ t.fault = false ∧ t.faultCause = 0 ∧ t.faultWord = 0 ∧
    t.faultPort = .p0 ∧ t.discardLast = 0 ∧ t.discardCount = 0
end

