-- ==== Sys2Proof/Laws/Conv.lean ====
section
/-!
SUPPORT. Small laws of the operand forms and of the conversion function: widths, patterns and their integers, byte
windows, the sign flip, and the shapes of `conv`.
-/

namespace Sys2Proof

/-! ## Widths and patterns -/

/-- The widths are whole bytes, from one to eight. -/
theorem Rep.width_eq (r : Rep) : r.width = 8 * r.rawWidth ∧ 1 ≤ r.rawWidth ∧ r.rawWidth ≤ 8 := by
  cases r <;> decide

theorem unbus_lt (r : Rep) (x : Bus) : unbus r x < 2 ^ r.width :=
  Nat.mod_lt _ (Nat.pow_pos (by norm_num))

/-- A bus carries a value of any width back to itself. -/
theorem unbus_bus (r : Rep) {p : Nat} (h : p < 2 ^ r.width) : unbus r (bus r p) = p := by
  unfold unbus bus Rep.intOf
  cases r <;> simp only [Rep.width, Rep.isSigned, BitVec.toNat_ofInt] at * <;> norm_num at h ⊢ <;>
    (try split) <;> omega

/-- A pattern is the pattern of its integer. -/
theorem patternOf_intOf (r : Rep) {p : Nat} (h : p < 2 ^ r.width) : r.patternOf (r.intOf p) = p := by
  unfold Rep.patternOf Rep.intOf
  cases r <;> simp only [Rep.width, Rep.isSigned] at * <;> norm_num at h ⊢ <;> (try split) <;> omega

/-- An integer in the range of a representation is the integer of its pattern. -/
theorem intOf_patternOf (r : Rep) (hr : r.isFloat = false) {v : Int} (hl : r.minInt ≤ v) (hu : v ≤ r.maxInt) :
    r.intOf (r.patternOf v) = v := by
  unfold Rep.patternOf Rep.intOf
  cases r <;> simp only [Rep.width, Rep.isSigned, Rep.isFloat, Rep.minInt, Rep.maxInt] at * <;>
    (try contradiction) <;> norm_num at hl hu ⊢ <;> (try split) <;> omega

/-- The integer of a pattern lies in the range. -/
theorem intOf_range (r : Rep) (hr : r.isFloat = false) {p : Nat} (h : p < 2 ^ r.width) :
    r.minInt ≤ r.intOf p ∧ r.intOf p ≤ r.maxInt := by
  unfold Rep.intOf
  cases r <;> simp only [Rep.width, Rep.isSigned, Rep.isFloat, Rep.minInt, Rep.maxInt] at * <;>
    (try contradiction) <;> norm_num at h ⊢ <;> (try split) <;> omega

/-! ## Byte windows -/

@[simp] theorem leBytes_length (n p : Nat) : (leBytes n p).length = n := by
  induction n generalizing p with
  | zero => rfl
  | succ n ih => simp [leBytes, ih]

@[simp] theorem rawEncode_length (r : Rep) (be : Bool) (p : Nat) : (rawEncode r be p).length = r.rawWidth := by
  cases be <;> simp [rawEncode]

theorem leNat_lt (b : List Byte) : leNat b < 2 ^ (8 * b.length) := by
  induction b with
  | nil => simp [leNat]
  | cons x b ih =>
    have := x.isLt
    have hp : 2 ^ (8 * (b.length + 1)) = 256 * 2 ^ (8 * b.length) := by rw [Nat.mul_succ, Nat.pow_add]; ring
    simp only [leNat, List.length_cons, hp]
    omega

theorem leNat_leBytes (n p : Nat) : leNat (leBytes n p) = p % 2 ^ (8 * n) := by
  induction n generalizing p with
  | zero => simp [leBytes, leNat, Nat.mod_one]
  | succ n ih =>
    have hp : 2 ^ (8 * (n + 1)) = 256 * 2 ^ (8 * n) := by rw [Nat.mul_succ, Nat.pow_add]; ring
    simp only [leBytes, leNat, ih, hp, BitVec.toNat_ofNat, Nat.mod_mul]

theorem leBytes_leNat (b : List Byte) : leBytes b.length (leNat b) = b := by
  induction b with
  | nil => rfl
  | cons x b ih =>
    have hx := x.isLt
    have h1 : (x.toNat + 256 * leNat b) / 256 = leNat b := by omega
    have h2 : BitVec.ofNat 8 (x.toNat + 256 * leNat b) = x := by
      apply BitVec.eq_of_toNat_eq
      rw [BitVec.toNat_ofNat]
      omega
    simp only [List.length_cons, leBytes, leNat, h1, h2, ih]

namespace Machine

/-! ## The sign flip and the shapes of `conv` -/

/-- The half-range offset of a `w`-bit pattern is the exclusive or with the half range (R94). -/
theorem flipSign_eq_xor {w p : Nat} (hw : 1 ≤ w) (hp : p < 2 ^ w) : flipSign w p = p ^^^ 2 ^ (w - 1) := by
  obtain ⟨n, rfl⟩ : ∃ n, w = n + 1 := ⟨w - 1, by omega⟩
  have hx : (p ^^^ 2 ^ n) / 2 ^ n = p / 2 ^ n ^^^ 1 := by
    rw [Nat.xor_div_two_pow, Nat.div_self (Nat.pow_pos (by norm_num))]
  have hm : (p ^^^ 2 ^ n) % 2 ^ n = p % 2 ^ n := by
    rw [Nat.xor_mod_two_pow, Nat.mod_self, Nat.xor_zero]
  have hn : 0 < 2 ^ n := Nat.pow_pos (by norm_num)
  have h2 : 2 ^ (n + 1) = 2 * 2 ^ n := by rw [Nat.pow_succ]; ring
  have hd := Nat.div_add_mod p (2 ^ n)
  have hd' := Nat.div_add_mod (p ^^^ 2 ^ n) (2 ^ n)
  rw [hx, hm] at hd'
  have hq : p / 2 ^ n < 2 := Nat.div_lt_of_lt_mul (by rw [Nat.mul_comm, ← h2]; exact hp)
  unfold flipSign
  simp only [Nat.add_sub_cancel, h2]
  rcases (show p / 2 ^ n = 0 ∨ p / 2 ^ n = 1 by generalize p / 2 ^ n = q at hq; omega) with h | h <;> rw [h] at hd hd' <;> norm_num at hd hd'
  · rw [Nat.mod_eq_of_lt (by omega)]; omega
  · rw [Nat.mod_eq_sub_mod (by omega), Nat.mod_eq_of_lt (by omega)]; omega

theorem flipSign_flipSign {w p : Nat} (hw : 1 ≤ w) (hp : p < 2 ^ w) : flipSign w (flipSign w p) = p := by
  have : flipSign w p < 2 ^ w := Nat.mod_lt _ (Nat.pow_pos (by norm_num))
  rw [flipSign_eq_xor hw this, flipSign_eq_xor hw hp, Nat.xor_assoc, Nat.xor_self, Nat.xor_zero]

/-- Between different integer representations `conv` is `intConv`, and makes no draw. -/
theorem conv_int {s d : Rep} (hs : s.isFloat = false) (hd : d.isFloat = false) (h : s ≠ d) (v k : Nat) :
    conv s d v k = intConv s d v ∧ convDraws s d v = 0 := by
  have hf : convFixed s d v = some (intConv s d v) := by
    unfold convFixed convClass
    simp only [h, hs, hd, if_false, Bool.false_eq_true]
    split_ifs <;> rfl
  simp [conv, convDraws, hf]

/-- From an integer to a float `conv` is `intToFloat`, and makes no draw. -/
theorem conv_intToFloat {s d : Rep} (hs : s.isFloat = false) (hd : d.isFloat = true) (v k : Nat) :
    conv s d v k = intToFloat s d v ∧ convDraws s d v = 0 := by
  have h : s ≠ d := fun h => by rw [h, hd] at hs; cases hs
  simp [conv, convDraws, convFixed, convClass, h, hs, hd]

/-- From a float to an integer `conv` is the pattern of `floatToInt`, or a draw where that answers none. -/
theorem conv_floatToInt {s d : Rep} (hs : s.isFloat = true) (hd : d.isFloat = false) (v k : Nat) :
    conv s d v k = ((floatToInt d ((floatFormat s).num v)).map d.patternOf).getD (nanDraw d k) := by
  have h : s ≠ d := fun h => by rw [h, hd] at hs; cases hs
  simp [conv, convFixed, convClass, h, hs, hd]

end Machine

end Sys2Proof
end

