-- ==== Sys2Proof/Laws/Decode.lean ====
section
/-!
SUPPORT. Laws of the command word (30_encoding.md R71, R80, R84): the fields and the word determine each other, a
command and its row of the opcode table determine each other, and the decoder accepts exactly the well-formed fields.
-/

namespace Sys2Proof

@[simp] theorem instrOf_command (i : Instr) : instrOf i.command = i := by
  cases i <;> rfl

@[simp] theorem command_instrOf (c : Command) : (instrOf c).command = c := by
  cases c with
  | cvt a b => cases a <;> cases b <;> rfl
  | rawrd r be => cases r <;> cases be <;> rfl
  | rawwr r be => cases r <;> cases be <;> rfl
  | get r => cases r <;> rfl
  | set r => cases r <;> rfl
  | _ => rfl

/-- A field of a word as a number. -/
theorem toNat_extract (w : Word) (lo len : Nat) :
    (w.extractLsb' lo len).toNat = w.toNat / 2 ^ lo % 2 ^ len := by
  simp [BitVec.extractLsb'_toNat, Nat.shiftRight_eq_div_pow]

@[simp] theorem fieldsOf_word (f : Fields) : fieldsOf f.word = f := by
  obtain ⟨opc, ra, rb, e, low⟩ := f
  have := opc.isLt
  have := ra.isLt
  have := rb.isLt
  have := e.isLt
  have := low.isLt
  simp only [fieldsOf, Fields.word, Fields.mk.injEq]
  refine ⟨?_, ?_, ?_, ?_, ?_⟩ <;> apply BitVec.eq_of_toNat_eq <;>
    rw [toNat_extract, BitVec.toNat_ofNat] <;> omega

@[simp] theorem word_fieldsOf (w : Word) : (fieldsOf w).word = w := by
  apply BitVec.eq_of_toNat_eq
  have := w.isLt
  simp only [fieldsOf, Fields.word, toNat_extract, BitVec.toNat_ofNat]
  omega

@[simp] theorem repOfCode_repCode (r : Rep) : repOfCode (repCode r) = some r := by
  cases r <;> rfl

theorem repCode_of_repOfCode {c : BitVec 4} {r : Rep} (h : repOfCode c = some r) : c = repCode r := by
  revert h; revert r; revert c; decide

/-- A representation field names a representation exactly if its code is not reserved (R75). -/
theorem repOfCode_isSome (c : BitVec 4) : (repOfCode c).isSome = repCodeOk c := by
  revert c; decide

/-- An opcode below 0xC names a command, whatever the fields (R73). -/
theorem commandOf_isSome (opc : BitVec 4) (a b : Rep) (be : Bool) :
    (commandOf opc a b be).isSome = decide (opc < 0xC#4) := by
  have h : ∀ c : BitVec 4, (commandOf c .u8 .u8 false).isSome = decide (c < 0xC#4) := by decide
  rw [← h opc]
  unfold commandOf
  split <;> rfl

/-- A field that an opcode uses holds a representation's code, and one that it does not use is zero. -/
theorem usedAsTabled_eq (f : Fields) :
    f.usedAsTabled = (decide (f.opc < 0xC#4) && (usesRA f.opc || f.ra == 0) && (usesRB f.opc || f.rb == 0)
      && (usesE f.opc || f.e == 0) && repCodeOk f.ra && repCodeOk f.rb) := by
  obtain ⟨opc, ra, rb, e, low⟩ := f
  have hz : ∀ c : BitVec 4, (c == 0#4) = (c == 0#4 && repCodeOk c) := by decide
  have hc : ∀ c : BitVec 4, c = 0 ∨ c = 1 ∨ c = 2 ∨ c = 3 ∨ c = 4 ∨ c = 5 ∨ c = 6 ∨ c = 7 ∨ c = 8 ∨ c = 9 ∨ c = 10 ∨
      c = 11 ∨ c = 12 ∨ c = 13 ∨ c = 14 ∨ c = 15 := by
    decide
  have h1 := hz ra
  have h2 := hz rb
  rcases hc opc with rfl | rfl | rfl | rfl | rfl | rfl | rfl | rfl | rfl | rfl | rfl | rfl | rfl | rfl | rfl | rfl <;>
    simp [Fields.usedAsTabled, usesRA, usesRB, usesE] <;> grind

/-- The decoder answers a command exactly on the fields that the table of R80 allows. -/
theorem decodeFields_isCommand (f : Fields) :
    (∃ i, decodeFields f = .command i) ↔ f.wellFormed = true := by
  unfold decodeFields Fields.wellFormed
  rw [usedAsTabled_eq]
  have ha := repOfCode_isSome f.ra
  have hb := repOfCode_isSome f.rb
  by_cases h : f.opc < 0xC#4
  · rw [if_neg (BitVec.not_le.mpr h)]
    split_ifs with h1
    · simp at h1 ⊢; grind
    · rcases h4 : repOfCode f.ra with _ | a
      · simp_all
      rcases h5 : repOfCode f.rb with _ | b
      · simp_all
      obtain ⟨c, hc⟩ := Option.isSome_iff_exists.mp
        ((commandOf_isSome f.opc a b (f.e == 1)).trans (decide_eq_true h))
      rw [h4] at ha
      rw [h5] at hb
      simp only [Option.isSome_some] at ha hb
      simp only [hc, ← ha, ← hb, h, decide_true]
      simp at h1 ⊢
      grind
  · rw [if_pos (BitVec.not_lt.mp h)]
    simp [h]
end Sys2Proof
end

