-- ==== Sys2Proof/Laws/Exec.lean ====
section
/-!
SUPPORT. `exec` by command: the 167 arms are twelve shapes, and a proof about all instructions splits into those.
-/

namespace Sys2Proof.Machine

/-- What `exec` runs, by the command its instruction stands for. -/
theorem exec_eq_command (i : Instr) (s : State) :
    exec i s =
      match i.command with
      | .cvt a b => cvt a b s
      | .rawrd r be => rawrd r be s
      | .rawwr r be => rawwr r be s
      | .acquire => execAcquire s
      | .get r => getSample r s
      | .set r => setSample r s
      | .commit => execCommit s
      | .area => execArea s
      | .configure => execConfigure s
      | .invStart => execInvStart s
      | .invEnd => execInvEnd s
      | .rdreg => execRdreg s := by
  cases i <;> rfl

@[simp] theorem exec_cvt (a b : Rep) (s : State) : exec (instrOf (.cvt a b)) s = cvt a b s := by
  simp [exec_eq_command]

@[simp] theorem exec_rawrd (r : Rep) (be : Bool) (s : State) : exec (instrOf (.rawrd r be)) s = rawrd r be s := by
  simp [exec_eq_command]

@[simp] theorem exec_rawwr (r : Rep) (be : Bool) (s : State) : exec (instrOf (.rawwr r be)) s = rawwr r be s := by
  simp [exec_eq_command]

@[simp] theorem exec_get (r : Rep) (s : State) : exec (instrOf (.get r)) s = getSample r s := by
  simp [exec_eq_command]

@[simp] theorem exec_set (r : Rep) (s : State) : exec (instrOf (.set r)) s = setSample r s := by
  simp [exec_eq_command]

end Sys2Proof.Machine
end

