-- ==== Sys2Proof/Laws/Memory.lean ====
section
/-!
SUPPORT. Laws of buffer memory: what a write does to each address, and that every operation keeps the canonical form.
-/

namespace Sys2Proof.Machine

/-! ## Reading after writing -/

@[simp] theorem Memory.read_write_same (m : List Host.Cell) (a : Nat) (b : Byte) :
    Memory.read (Memory.write m a b) a = some b := by
  induction m with
  | nil => simp [Memory.write, Memory.read]
  | cons c m ih =>
    obtain ⟨k, d⟩ := c
    unfold Memory.write
    split_ifs with h1 h2
    · simp [Memory.read]
    · simp [Memory.read]
    · have : k ≠ a := fun h => h2 h.symm
      simp [Memory.read, this, ih]

theorem Memory.read_write_other (m : List Host.Cell) {a x : Nat} (b : Byte) (h : x ≠ a) :
    Memory.read (Memory.write m a b) x = Memory.read m x := by
  induction m with
  | nil => simp [Memory.write, Memory.read, h.symm]
  | cons c m ih =>
    obtain ⟨k, d⟩ := c
    unfold Memory.write
    split_ifs with h1 h2
    · simp [Memory.read, h.symm]
    · subst h2; simp [Memory.read, h.symm]
    · simp [Memory.read, ih]

@[simp] theorem Memory.writeAll_nil (m : List Host.Cell) : Memory.writeAll m [] = m := rfl

@[simp] theorem Memory.writeAll_cons (m : List Host.Cell) (c : Host.Cell) (cs : List Host.Cell) :
    Memory.writeAll m (c :: cs) = Memory.writeAll (Memory.write m c.1 c.2) cs := rfl

/-- A run of writes leaves every address it does not name alone. -/
theorem Memory.read_writeAll_other (cs : List Host.Cell) (m : List Host.Cell) (x : Nat)
    (h : ∀ c ∈ cs, c.1 ≠ x) : Memory.read (Memory.writeAll m cs) x = Memory.read m x := by
  induction cs generalizing m with
  | nil => rfl
  | cons c cs ih =>
    rw [Memory.writeAll_cons, ih _ fun d hd => h d (List.mem_cons_of_mem c hd),
      Memory.read_write_other m c.2 (h c List.mem_cons_self).symm]

/-- A run of writes to distinct addresses leaves each of them with its byte. -/
theorem Memory.read_writeAll_mem (cs : List Host.Cell) (m : List Host.Cell)
    (hd : (cs.map Prod.fst).Nodup) {c : Host.Cell} (hc : c ∈ cs) :
    Memory.read (Memory.writeAll m cs) c.1 = some c.2 := by
  induction cs generalizing m with
  | nil => cases hc
  | cons d cs ih =>
    rw [List.map_cons, List.nodup_cons] at hd
    rw [Memory.writeAll_cons]
    rcases List.mem_cons.mp hc with rfl | hc
    · rw [Memory.read_writeAll_other cs _ _ fun e he heq => hd.1 (List.mem_map.mpr ⟨e, he, heq⟩)]
      exact Memory.read_write_same m _ _
    · exact ih _ hd.2 hc

/-! ## The canonical form -/

/-- The keys of a written list are the old ones and the written address. -/
theorem Memory.mem_write {m : List Host.Cell} {a : Nat} {b : Byte} {c : Host.Cell}
    (h : c ∈ Memory.write m a b) : c = (a, b) ∨ c ∈ m := by
  induction m with
  | nil => simpa [Memory.write] using h
  | cons d m ih =>
    obtain ⟨k, e⟩ := d
    unfold Memory.write at h
    split_ifs at h with h1 h2
    · simpa using h
    · rcases List.mem_cons.mp h with h | h
      · exact .inl h
      · exact .inr (List.mem_cons_of_mem _ h)
    · rcases List.mem_cons.mp h with h | h
      · exact .inr (h ▸ List.mem_cons_self)
      · exact (ih h).imp_right (List.mem_cons_of_mem _)

/-- A write keeps the canonical form. -/
theorem Memory.write_wf {m : List Host.Cell} (a : Nat) (b : Byte) (h : Memory.wf m) :
    Memory.wf (Memory.write m a b) := by
  induction m with
  | nil => simp [Memory.write]
  | cons d m ih =>
    obtain ⟨k, e⟩ := d
    have hm := List.pairwise_cons.mp h
    unfold Memory.write
    split_ifs with h1 h2
    · refine List.pairwise_cons.mpr ⟨fun c hc => ?_, h⟩
      rcases List.mem_cons.mp hc with rfl | hc
      · exact h1
      · exact lt_trans h1 (hm.1 c hc)
    · subst h2
      exact List.pairwise_cons.mpr ⟨hm.1, hm.2⟩
    · refine List.pairwise_cons.mpr ⟨fun c hc => ?_, ih hm.2⟩
      rcases Memory.mem_write hc with rfl | hc
      · exact lt_of_le_of_ne (not_lt.mp h1) fun hk => h2 hk.symm
      · exact hm.1 c hc

/-- A run of writes keeps the canonical form. -/
theorem Memory.writeAll_wf (cs : List Host.Cell) {m : List Host.Cell} (h : Memory.wf m) :
    Memory.wf (Memory.writeAll m cs) := by
  induction cs generalizing m with
  | nil => exact h
  | cons c cs ih => exact ih (Memory.write_wf c.1 c.2 h)

/-- Leaving entries out keeps the canonical form. -/
theorem Memory.filter_wf (p : Host.Cell → Bool) {m : List Host.Cell} (h : Memory.wf m) :
    Memory.wf (m.filter p) :=
  h.filter p

/-- Every entry of a written list is an old entry or a written one. -/
theorem Memory.mem_writeAll (cs : List Host.Cell) {m : List Host.Cell} {c : Host.Cell}
    (h : c ∈ Memory.writeAll m cs) : c ∈ m ∨ c ∈ cs := by
  induction cs generalizing m with
  | nil => exact .inl h
  | cons d cs ih =>
    rcases ih h with h | h
    · rcases Memory.mem_write h with rfl | h
      · exact .inr List.mem_cons_self
      · exact .inl h
    · exact .inr (List.mem_cons_of_mem _ h)

/-- What is read of a list without the entries of some addresses. -/
theorem Memory.read_filter (p : Nat → Bool) (m : List Host.Cell) (x : Nat) :
    Memory.read (m.filter fun c => p c.1) x = if p x then Memory.read m x else none := by
  induction m with
  | nil => simp [Memory.read]
  | cons c m ih =>
    obtain ⟨k, b⟩ := c
    by_cases hk : p k <;> by_cases hx : k = x <;> simp_all [Memory.read]

/-- An address below every listed one is not listed. -/
theorem Memory.read_eq_none_of_lt {m : List Host.Cell} {x : Nat} (h : ∀ c ∈ m, x < c.1) :
    Memory.read m x = none := by
  induction m with
  | nil => rfl
  | cons c m ih =>
    have hc : c.1 ≠ x := (h c List.mem_cons_self).ne'
    simp [Memory.read, hc, ih fun d hd => h d (List.mem_cons_of_mem c hd)]

/-- Canonical memories that read alike at every address are the same list. -/
theorem Memory.ext {m n : List Host.Cell} (hm : Memory.wf m) (hn : Memory.wf n)
    (h : ∀ a, Memory.read m a = Memory.read n a) : m = n := by
  induction m generalizing n with
  | nil =>
    cases n with
    | nil => rfl
    | cons c n => have := h c.1; simp [Memory.read] at this
  | cons c m ih =>
    obtain ⟨k, b⟩ := c
    cases n with
    | nil => have := h k; simp [Memory.read] at this
    | cons d n =>
      obtain ⟨l, e⟩ := d
      have hm' := List.pairwise_cons.mp hm
      have hn' := List.pairwise_cons.mp hn
      have below : ∀ {u v : Nat} {q : List Host.Cell}, u < v → (∀ c ∈ q, v < c.1) →
          Memory.read q u = none :=
        fun huv hq => Memory.read_eq_none_of_lt fun c hc => lt_trans huv (hq c hc)
      have hkl : k = l := by
        rcases lt_trichotomy k l with hlt | heq | hgt
        · have := h k
          simp [Memory.read, hlt.ne', below hlt hn'.1] at this
        · exact heq
        · have := h l
          simp [Memory.read, hgt.ne', below hgt hm'.1] at this
      subst hkl
      have hb : b = e := by simpa [Memory.read] using h k
      subst hb
      refine congrArg _ (ih hm'.2 hn'.2 fun a => ?_)
      by_cases ha : k = a
      · subst ha
        rw [Memory.read_eq_none_of_lt hm'.1, Memory.read_eq_none_of_lt hn'.1]
      · simpa [Memory.read, ha] using h a

end Sys2Proof.Machine
end

