-- ==== Sys2Proof/Laws/State.lean ====
section
/-!
SUPPORT. What each update of the state leaves in each field: one lemma per field per update, so that no later proof
unfolds a record update.
-/

namespace Sys2Proof.Machine

/-! ## respond -/

@[simp] theorem respond_cfgFormat (st : Status) (r0 r1 : Bus) (raw : Vector Byte 8) (len : Nat) (s : State) :
    (respond st r0 r1 raw len s).cfgFormat = s.cfgFormat := rfl
@[simp] theorem respond_cfgLocked (st : Status) (r0 r1 : Bus) (raw : Vector Byte 8) (len : Nat) (s : State) :
    (respond st r0 r1 raw len s).cfgLocked = s.cfgLocked := rfl
@[simp] theorem respond_channels (st : Status) (r0 r1 : Bus) (raw : Vector Byte 8) (len : Nat) (s : State) :
    (respond st r0 r1 raw len s).channels = s.channels := rfl
@[simp] theorem respond_invActive (st : Status) (r0 r1 : Bus) (raw : Vector Byte 8) (len : Nat) (s : State) :
    (respond st r0 r1 raw len s).invActive = s.invActive := rfl
@[simp] theorem respond_fcMin (st : Status) (r0 r1 : Bus) (raw : Vector Byte 8) (len : Nat) (s : State) :
    (respond st r0 r1 raw len s).fcMin = s.fcMin := rfl
@[simp] theorem respond_fcMax (st : Status) (r0 r1 : Bus) (raw : Vector Byte 8) (len : Nat) (s : State) :
    (respond st r0 r1 raw len s).fcMax = s.fcMax := rfl
@[simp] theorem respond_curState (st : Status) (r0 r1 : Bus) (raw : Vector Byte 8) (len : Nat) (s : State) :
    (respond st r0 r1 raw len s).curState = s.curState := rfl
@[simp] theorem respond_granted (st : Status) (r0 r1 : Bus) (raw : Vector Byte 8) (len : Nat) (s : State) :
    (respond st r0 r1 raw len s).granted = s.granted := rfl
@[simp] theorem respond_areas (st : Status) (r0 r1 : Bus) (raw : Vector Byte 8) (len : Nat) (s : State) :
    (respond st r0 r1 raw len s).areas = s.areas := rfl
@[simp] theorem respond_committedTotal (st : Status) (r0 r1 : Bus) (raw : Vector Byte 8) (len : Nat) (s : State) :
    (respond st r0 r1 raw len s).committedTotal = s.committedTotal := rfl
@[simp] theorem respond_shortfall (st : Status) (r0 r1 : Bus) (raw : Vector Byte 8) (len : Nat) (s : State) :
    (respond st r0 r1 raw len s).shortfall = s.shortfall := rfl
@[simp] theorem respond_broken (st : Status) (r0 r1 : Bus) (raw : Vector Byte 8) (len : Nat) (s : State) :
    (respond st r0 r1 raw len s).broken = s.broken := rfl
@[simp] theorem respond_fault (st : Status) (r0 r1 : Bus) (raw : Vector Byte 8) (len : Nat) (s : State) :
    (respond st r0 r1 raw len s).fault = s.fault := rfl
@[simp] theorem respond_faultCause (st : Status) (r0 r1 : Bus) (raw : Vector Byte 8) (len : Nat) (s : State) :
    (respond st r0 r1 raw len s).faultCause = s.faultCause := rfl
@[simp] theorem respond_faultWord (st : Status) (r0 r1 : Bus) (raw : Vector Byte 8) (len : Nat) (s : State) :
    (respond st r0 r1 raw len s).faultWord = s.faultWord := rfl
@[simp] theorem respond_faultPort (st : Status) (r0 r1 : Bus) (raw : Vector Byte 8) (len : Nat) (s : State) :
    (respond st r0 r1 raw len s).faultPort = s.faultPort := rfl
@[simp] theorem respond_discardLast (st : Status) (r0 r1 : Bus) (raw : Vector Byte 8) (len : Nat) (s : State) :
    (respond st r0 r1 raw len s).discardLast = s.discardLast := rfl
@[simp] theorem respond_discardCount (st : Status) (r0 r1 : Bus) (raw : Vector Byte 8) (len : Nat) (s : State) :
    (respond st r0 r1 raw len s).discardCount = s.discardCount := rfl
@[simp] theorem respond_mem (st : Status) (r0 r1 : Bus) (raw : Vector Byte 8) (len : Nat) (s : State) :
    (respond st r0 r1 raw len s).mem = s.mem := rfl
@[simp] theorem respond_epoch (st : Status) (r0 r1 : Bus) (raw : Vector Byte 8) (len : Nat) (s : State) :
    (respond st r0 r1 raw len s).epoch = s.epoch := rfl
@[simp] theorem respond_admitted (st : Status) (r0 r1 : Bus) (raw : Vector Byte 8) (len : Nat) (s : State) :
    (respond st r0 r1 raw len s).admitted = s.admitted := rfl
@[simp] theorem respond_params (st : Status) (r0 r1 : Bus) (raw : Vector Byte 8) (len : Nat) (s : State) :
    (respond st r0 r1 raw len s).params = s.params := rfl
@[simp] theorem respond_draws (st : Status) (r0 r1 : Bus) (raw : Vector Byte 8) (len : Nat) (s : State) :
    (respond st r0 r1 raw len s).draws = s.draws := rfl
@[simp] theorem respond_abandoned (st : Status) (r0 r1 : Bus) (raw : Vector Byte 8) (len : Nat) (s : State) :
    (respond st r0 r1 raw len s).abandoned = s.abandoned := rfl
@[simp] theorem respond_inbox (st : Status) (r0 r1 : Bus) (raw : Vector Byte 8) (len : Nat) (s : State) :
    (respond st r0 r1 raw len s).inbox = s.inbox := rfl
@[simp] theorem respond_port (st : Status) (r0 r1 : Bus) (raw : Vector Byte 8) (len : Nat) (s : State) :
    (respond st r0 r1 raw len s).port = s.port := rfl
@[simp] theorem respond_txn (st : Status) (r0 r1 : Bus) (raw : Vector Byte 8) (len : Nat) (s : State) :
    (respond st r0 r1 raw len s).txn = s.txn := rfl
@[simp] theorem respond_reply (st : Status) (r0 r1 : Bus) (raw : Vector Byte 8) (len : Nat) (s : State) :
    (respond st r0 r1 raw len s).reply = some ⟨s.port, st, r0, r1, raw, len⟩ := rfl

/-! ## answer -/

@[simp] theorem answer_cfgFormat (st : Status) (s : State) : (answer st s).cfgFormat = s.cfgFormat := rfl
@[simp] theorem answer_cfgLocked (st : Status) (s : State) : (answer st s).cfgLocked = s.cfgLocked := rfl
@[simp] theorem answer_channels (st : Status) (s : State) : (answer st s).channels = s.channels := rfl
@[simp] theorem answer_invActive (st : Status) (s : State) : (answer st s).invActive = s.invActive := rfl
@[simp] theorem answer_fcMin (st : Status) (s : State) : (answer st s).fcMin = s.fcMin := rfl
@[simp] theorem answer_fcMax (st : Status) (s : State) : (answer st s).fcMax = s.fcMax := rfl
@[simp] theorem answer_curState (st : Status) (s : State) : (answer st s).curState = s.curState := rfl
@[simp] theorem answer_granted (st : Status) (s : State) : (answer st s).granted = s.granted := rfl
@[simp] theorem answer_areas (st : Status) (s : State) : (answer st s).areas = s.areas := rfl
@[simp] theorem answer_committedTotal (st : Status) (s : State) :
    (answer st s).committedTotal = s.committedTotal := rfl
@[simp] theorem answer_shortfall (st : Status) (s : State) : (answer st s).shortfall = s.shortfall := rfl
@[simp] theorem answer_broken (st : Status) (s : State) : (answer st s).broken = s.broken := rfl
@[simp] theorem answer_fault (st : Status) (s : State) : (answer st s).fault = s.fault := rfl
@[simp] theorem answer_faultCause (st : Status) (s : State) : (answer st s).faultCause = s.faultCause := rfl
@[simp] theorem answer_faultWord (st : Status) (s : State) : (answer st s).faultWord = s.faultWord := rfl
@[simp] theorem answer_faultPort (st : Status) (s : State) : (answer st s).faultPort = s.faultPort := rfl
@[simp] theorem answer_discardLast (st : Status) (s : State) : (answer st s).discardLast = s.discardLast := rfl
@[simp] theorem answer_discardCount (st : Status) (s : State) : (answer st s).discardCount = s.discardCount := rfl
@[simp] theorem answer_mem (st : Status) (s : State) : (answer st s).mem = s.mem := rfl
@[simp] theorem answer_epoch (st : Status) (s : State) : (answer st s).epoch = s.epoch := rfl
@[simp] theorem answer_admitted (st : Status) (s : State) : (answer st s).admitted = s.admitted := rfl
@[simp] theorem answer_params (st : Status) (s : State) : (answer st s).params = s.params := rfl
@[simp] theorem answer_draws (st : Status) (s : State) : (answer st s).draws = s.draws := rfl
@[simp] theorem answer_abandoned (st : Status) (s : State) : (answer st s).abandoned = s.abandoned := rfl
@[simp] theorem answer_inbox (st : Status) (s : State) : (answer st s).inbox = s.inbox := rfl
@[simp] theorem answer_port (st : Status) (s : State) : (answer st s).port = s.port := rfl
@[simp] theorem answer_txn (st : Status) (s : State) : (answer st s).txn = s.txn := rfl
@[simp] theorem answer_reply (st : Status) (s : State) :
    (answer st s).reply = some ⟨s.port, st, 0, 0, rawZero, 0⟩ := rfl

/-! ## result -/

@[simp] theorem result_cfgFormat (r0 : Bus) (s : State) : (result r0 s).cfgFormat = s.cfgFormat := rfl
@[simp] theorem result_cfgLocked (r0 : Bus) (s : State) : (result r0 s).cfgLocked = s.cfgLocked := rfl
@[simp] theorem result_channels (r0 : Bus) (s : State) : (result r0 s).channels = s.channels := rfl
@[simp] theorem result_invActive (r0 : Bus) (s : State) : (result r0 s).invActive = s.invActive := rfl
@[simp] theorem result_fcMin (r0 : Bus) (s : State) : (result r0 s).fcMin = s.fcMin := rfl
@[simp] theorem result_fcMax (r0 : Bus) (s : State) : (result r0 s).fcMax = s.fcMax := rfl
@[simp] theorem result_curState (r0 : Bus) (s : State) : (result r0 s).curState = s.curState := rfl
@[simp] theorem result_granted (r0 : Bus) (s : State) : (result r0 s).granted = s.granted := rfl
@[simp] theorem result_areas (r0 : Bus) (s : State) : (result r0 s).areas = s.areas := rfl
@[simp] theorem result_committedTotal (r0 : Bus) (s : State) : (result r0 s).committedTotal = s.committedTotal := rfl
@[simp] theorem result_shortfall (r0 : Bus) (s : State) : (result r0 s).shortfall = s.shortfall := rfl
@[simp] theorem result_broken (r0 : Bus) (s : State) : (result r0 s).broken = s.broken := rfl
@[simp] theorem result_fault (r0 : Bus) (s : State) : (result r0 s).fault = s.fault := rfl
@[simp] theorem result_faultCause (r0 : Bus) (s : State) : (result r0 s).faultCause = s.faultCause := rfl
@[simp] theorem result_faultWord (r0 : Bus) (s : State) : (result r0 s).faultWord = s.faultWord := rfl
@[simp] theorem result_faultPort (r0 : Bus) (s : State) : (result r0 s).faultPort = s.faultPort := rfl
@[simp] theorem result_discardLast (r0 : Bus) (s : State) : (result r0 s).discardLast = s.discardLast := rfl
@[simp] theorem result_discardCount (r0 : Bus) (s : State) : (result r0 s).discardCount = s.discardCount := rfl
@[simp] theorem result_mem (r0 : Bus) (s : State) : (result r0 s).mem = s.mem := rfl
@[simp] theorem result_epoch (r0 : Bus) (s : State) : (result r0 s).epoch = s.epoch := rfl
@[simp] theorem result_admitted (r0 : Bus) (s : State) : (result r0 s).admitted = s.admitted := rfl
@[simp] theorem result_params (r0 : Bus) (s : State) : (result r0 s).params = s.params := rfl
@[simp] theorem result_draws (r0 : Bus) (s : State) : (result r0 s).draws = s.draws := rfl
@[simp] theorem result_abandoned (r0 : Bus) (s : State) : (result r0 s).abandoned = s.abandoned := rfl
@[simp] theorem result_inbox (r0 : Bus) (s : State) : (result r0 s).inbox = s.inbox := rfl
@[simp] theorem result_port (r0 : Bus) (s : State) : (result r0 s).port = s.port := rfl
@[simp] theorem result_txn (r0 : Bus) (s : State) : (result r0 s).txn = s.txn := rfl
@[simp] theorem result_reply (r0 : Bus) (s : State) :
    (result r0 s).reply = some ⟨s.port, .ok, r0, 0, rawZero, 0⟩ := rfl

/-! ## refuseFaulted -/

@[simp] theorem refuseFaulted_cfgFormat (s : State) : (refuseFaulted s).cfgFormat = s.cfgFormat := rfl
@[simp] theorem refuseFaulted_cfgLocked (s : State) : (refuseFaulted s).cfgLocked = s.cfgLocked := rfl
@[simp] theorem refuseFaulted_channels (s : State) : (refuseFaulted s).channels = s.channels := rfl
@[simp] theorem refuseFaulted_invActive (s : State) : (refuseFaulted s).invActive = s.invActive := rfl
@[simp] theorem refuseFaulted_fcMin (s : State) : (refuseFaulted s).fcMin = s.fcMin := rfl
@[simp] theorem refuseFaulted_fcMax (s : State) : (refuseFaulted s).fcMax = s.fcMax := rfl
@[simp] theorem refuseFaulted_curState (s : State) : (refuseFaulted s).curState = s.curState := rfl
@[simp] theorem refuseFaulted_granted (s : State) : (refuseFaulted s).granted = s.granted := rfl
@[simp] theorem refuseFaulted_areas (s : State) : (refuseFaulted s).areas = s.areas := rfl
@[simp] theorem refuseFaulted_committedTotal (s : State) : (refuseFaulted s).committedTotal = s.committedTotal := rfl
@[simp] theorem refuseFaulted_shortfall (s : State) : (refuseFaulted s).shortfall = s.shortfall := rfl
@[simp] theorem refuseFaulted_broken (s : State) : (refuseFaulted s).broken = s.broken := rfl
@[simp] theorem refuseFaulted_fault (s : State) : (refuseFaulted s).fault = s.fault := rfl
@[simp] theorem refuseFaulted_faultCause (s : State) : (refuseFaulted s).faultCause = s.faultCause := rfl
@[simp] theorem refuseFaulted_faultWord (s : State) : (refuseFaulted s).faultWord = s.faultWord := rfl
@[simp] theorem refuseFaulted_faultPort (s : State) : (refuseFaulted s).faultPort = s.faultPort := rfl
@[simp] theorem refuseFaulted_discardLast (s : State) : (refuseFaulted s).discardLast = s.discardLast := rfl
@[simp] theorem refuseFaulted_discardCount (s : State) : (refuseFaulted s).discardCount = s.discardCount := rfl
@[simp] theorem refuseFaulted_mem (s : State) : (refuseFaulted s).mem = s.mem := rfl
@[simp] theorem refuseFaulted_epoch (s : State) : (refuseFaulted s).epoch = s.epoch := rfl
@[simp] theorem refuseFaulted_admitted (s : State) : (refuseFaulted s).admitted = s.admitted := rfl
@[simp] theorem refuseFaulted_params (s : State) : (refuseFaulted s).params = s.params := rfl
@[simp] theorem refuseFaulted_draws (s : State) : (refuseFaulted s).draws = s.draws := rfl
@[simp] theorem refuseFaulted_abandoned (s : State) : (refuseFaulted s).abandoned = s.abandoned := rfl
@[simp] theorem refuseFaulted_inbox (s : State) : (refuseFaulted s).inbox = s.inbox := rfl
@[simp] theorem refuseFaulted_port (s : State) : (refuseFaulted s).port = s.port := rfl
@[simp] theorem refuseFaulted_txn (s : State) : (refuseFaulted s).txn = s.txn := rfl
@[simp] theorem refuseFaulted_reply (s : State) :
    (refuseFaulted s).reply = some ⟨s.port, .faulted, 0, 0, rawZero, 0⟩ := rfl

/-! ## raiseFault -/

@[simp] theorem raiseFault_cfgFormat (c : Cause) (s : State) : (raiseFault c s).cfgFormat = s.cfgFormat := rfl
@[simp] theorem raiseFault_cfgLocked (c : Cause) (s : State) : (raiseFault c s).cfgLocked = s.cfgLocked := rfl
@[simp] theorem raiseFault_channels (c : Cause) (s : State) : (raiseFault c s).channels = s.channels := rfl
@[simp] theorem raiseFault_invActive (c : Cause) (s : State) : (raiseFault c s).invActive = s.invActive := rfl
@[simp] theorem raiseFault_fcMin (c : Cause) (s : State) : (raiseFault c s).fcMin = s.fcMin := rfl
@[simp] theorem raiseFault_fcMax (c : Cause) (s : State) : (raiseFault c s).fcMax = s.fcMax := rfl
@[simp] theorem raiseFault_curState (c : Cause) (s : State) : (raiseFault c s).curState = s.curState := rfl
@[simp] theorem raiseFault_granted (c : Cause) (s : State) : (raiseFault c s).granted = s.granted := rfl
@[simp] theorem raiseFault_areas (c : Cause) (s : State) : (raiseFault c s).areas = s.areas := rfl
@[simp] theorem raiseFault_committedTotal (c : Cause) (s : State) :
    (raiseFault c s).committedTotal = s.committedTotal := rfl
@[simp] theorem raiseFault_shortfall (c : Cause) (s : State) : (raiseFault c s).shortfall = s.shortfall := rfl
@[simp] theorem raiseFault_broken (c : Cause) (s : State) : (raiseFault c s).broken = s.broken := rfl
@[simp] theorem raiseFault_fault (c : Cause) (s : State) : (raiseFault c s).fault = true := rfl
@[simp] theorem raiseFault_faultCause (c : Cause) (s : State) : (raiseFault c s).faultCause = c.code := rfl
@[simp] theorem raiseFault_faultWord (c : Cause) (s : State) : (raiseFault c s).faultWord = s.txn.cmd := rfl
@[simp] theorem raiseFault_faultPort (c : Cause) (s : State) : (raiseFault c s).faultPort = s.port := rfl
@[simp] theorem raiseFault_discardLast (c : Cause) (s : State) : (raiseFault c s).discardLast = s.discardLast := rfl
@[simp] theorem raiseFault_discardCount (c : Cause) (s : State) :
    (raiseFault c s).discardCount = s.discardCount := rfl
@[simp] theorem raiseFault_mem (c : Cause) (s : State) : (raiseFault c s).mem = s.mem := rfl
@[simp] theorem raiseFault_epoch (c : Cause) (s : State) : (raiseFault c s).epoch = s.epoch := rfl
@[simp] theorem raiseFault_admitted (c : Cause) (s : State) : (raiseFault c s).admitted = s.admitted := rfl
@[simp] theorem raiseFault_params (c : Cause) (s : State) : (raiseFault c s).params = s.params := rfl
@[simp] theorem raiseFault_draws (c : Cause) (s : State) : (raiseFault c s).draws = s.draws := rfl
@[simp] theorem raiseFault_abandoned (c : Cause) (s : State) : (raiseFault c s).abandoned = s.abandoned := rfl
@[simp] theorem raiseFault_inbox (c : Cause) (s : State) : (raiseFault c s).inbox = s.inbox := rfl
@[simp] theorem raiseFault_port (c : Cause) (s : State) : (raiseFault c s).port = s.port := rfl
@[simp] theorem raiseFault_txn (c : Cause) (s : State) : (raiseFault c s).txn = s.txn := rfl
@[simp] theorem raiseFault_reply (c : Cause) (s : State) :
    (raiseFault c s).reply = some ⟨s.port, .faulted, 0, 0, rawZero, 0⟩ := rfl

/-! ## writeWindow -/

@[simp] theorem writeWindow_cfgFormat (s : State) (xs : List Int) (bs : List Byte) :
    (s.writeWindow xs bs).cfgFormat = s.cfgFormat := rfl
@[simp] theorem writeWindow_cfgLocked (s : State) (xs : List Int) (bs : List Byte) :
    (s.writeWindow xs bs).cfgLocked = s.cfgLocked := rfl
@[simp] theorem writeWindow_channels (s : State) (xs : List Int) (bs : List Byte) :
    (s.writeWindow xs bs).channels = s.channels := rfl
@[simp] theorem writeWindow_invActive (s : State) (xs : List Int) (bs : List Byte) :
    (s.writeWindow xs bs).invActive = s.invActive := rfl
@[simp] theorem writeWindow_fcMin (s : State) (xs : List Int) (bs : List Byte) :
    (s.writeWindow xs bs).fcMin = s.fcMin := rfl
@[simp] theorem writeWindow_fcMax (s : State) (xs : List Int) (bs : List Byte) :
    (s.writeWindow xs bs).fcMax = s.fcMax := rfl
@[simp] theorem writeWindow_curState (s : State) (xs : List Int) (bs : List Byte) :
    (s.writeWindow xs bs).curState = s.curState := rfl
@[simp] theorem writeWindow_granted (s : State) (xs : List Int) (bs : List Byte) :
    (s.writeWindow xs bs).granted = s.granted := rfl
@[simp] theorem writeWindow_areas (s : State) (xs : List Int) (bs : List Byte) :
    (s.writeWindow xs bs).areas = s.areas := rfl
@[simp] theorem writeWindow_committedTotal (s : State) (xs : List Int) (bs : List Byte) :
    (s.writeWindow xs bs).committedTotal = s.committedTotal := rfl
@[simp] theorem writeWindow_shortfall (s : State) (xs : List Int) (bs : List Byte) :
    (s.writeWindow xs bs).shortfall = s.shortfall := rfl
@[simp] theorem writeWindow_broken (s : State) (xs : List Int) (bs : List Byte) :
    (s.writeWindow xs bs).broken = s.broken := rfl
@[simp] theorem writeWindow_fault (s : State) (xs : List Int) (bs : List Byte) :
    (s.writeWindow xs bs).fault = s.fault := rfl
@[simp] theorem writeWindow_faultCause (s : State) (xs : List Int) (bs : List Byte) :
    (s.writeWindow xs bs).faultCause = s.faultCause := rfl
@[simp] theorem writeWindow_faultWord (s : State) (xs : List Int) (bs : List Byte) :
    (s.writeWindow xs bs).faultWord = s.faultWord := rfl
@[simp] theorem writeWindow_faultPort (s : State) (xs : List Int) (bs : List Byte) :
    (s.writeWindow xs bs).faultPort = s.faultPort := rfl
@[simp] theorem writeWindow_discardLast (s : State) (xs : List Int) (bs : List Byte) :
    (s.writeWindow xs bs).discardLast = s.discardLast := rfl
@[simp] theorem writeWindow_discardCount (s : State) (xs : List Int) (bs : List Byte) :
    (s.writeWindow xs bs).discardCount = s.discardCount := rfl
@[simp] theorem writeWindow_mem (s : State) (xs : List Int) (bs : List Byte) :
    (s.writeWindow xs bs).mem = Memory.writeAll s.mem ((xs.map Int.toNat).zip bs) := rfl
@[simp] theorem writeWindow_epoch (s : State) (xs : List Int) (bs : List Byte) :
    (s.writeWindow xs bs).epoch = s.epoch := rfl
@[simp] theorem writeWindow_admitted (s : State) (xs : List Int) (bs : List Byte) :
    (s.writeWindow xs bs).admitted = s.admitted := rfl
@[simp] theorem writeWindow_params (s : State) (xs : List Int) (bs : List Byte) :
    (s.writeWindow xs bs).params = s.params := rfl
@[simp] theorem writeWindow_draws (s : State) (xs : List Int) (bs : List Byte) :
    (s.writeWindow xs bs).draws = s.draws := rfl
@[simp] theorem writeWindow_abandoned (s : State) (xs : List Int) (bs : List Byte) :
    (s.writeWindow xs bs).abandoned = s.abandoned := rfl
@[simp] theorem writeWindow_inbox (s : State) (xs : List Int) (bs : List Byte) :
    (s.writeWindow xs bs).inbox = s.inbox := rfl
@[simp] theorem writeWindow_port (s : State) (xs : List Int) (bs : List Byte) :
    (s.writeWindow xs bs).port = s.port := rfl
@[simp] theorem writeWindow_txn (s : State) (xs : List Int) (bs : List Byte) :
    (s.writeWindow xs bs).txn = s.txn := rfl
@[simp] theorem writeWindow_reply (s : State) (xs : List Int) (bs : List Byte) :
    (s.writeWindow xs bs).reply = s.reply := rfl

/-! ## takeSection -/

@[simp] theorem takeSection_cfgFormat (g : Grant) (a : Nat) (s : State) :
    (takeSection g a s).cfgFormat = s.cfgFormat := rfl
@[simp] theorem takeSection_cfgLocked (g : Grant) (a : Nat) (s : State) :
    (takeSection g a s).cfgLocked = s.cfgLocked := rfl
@[simp] theorem takeSection_channels (g : Grant) (a : Nat) (s : State) :
    (takeSection g a s).channels = s.channels := rfl
@[simp] theorem takeSection_invActive (g : Grant) (a : Nat) (s : State) :
    (takeSection g a s).invActive = s.invActive := rfl
@[simp] theorem takeSection_fcMin (g : Grant) (a : Nat) (s : State) : (takeSection g a s).fcMin = s.fcMin := rfl
@[simp] theorem takeSection_fcMax (g : Grant) (a : Nat) (s : State) : (takeSection g a s).fcMax = s.fcMax := rfl
@[simp] theorem takeSection_curState (g : Grant) (a : Nat) (s : State) :
    (takeSection g a s).curState = s.curState := rfl
@[simp] theorem takeSection_granted (g : Grant) (a : Nat) (s : State) : (takeSection g a s).granted = s.granted := rfl
@[simp] theorem takeSection_areas (g : Grant) (a : Nat) (s : State) :
    (takeSection g a s).areas = grantedAreas s g := rfl
@[simp] theorem takeSection_committedTotal (g : Grant) (a : Nat) (s : State) :
    (takeSection g a s).committedTotal = s.committedTotal := rfl
@[simp] theorem takeSection_shortfall (g : Grant) (a : Nat) (s : State) :
    (takeSection g a s).shortfall = s.shortfall := rfl
@[simp] theorem takeSection_broken (g : Grant) (a : Nat) (s : State) : (takeSection g a s).broken = s.broken := rfl
@[simp] theorem takeSection_fault (g : Grant) (a : Nat) (s : State) : (takeSection g a s).fault = s.fault := rfl
@[simp] theorem takeSection_faultCause (g : Grant) (a : Nat) (s : State) :
    (takeSection g a s).faultCause = s.faultCause := rfl
@[simp] theorem takeSection_faultWord (g : Grant) (a : Nat) (s : State) :
    (takeSection g a s).faultWord = s.faultWord := rfl
@[simp] theorem takeSection_faultPort (g : Grant) (a : Nat) (s : State) :
    (takeSection g a s).faultPort = s.faultPort := rfl
@[simp] theorem takeSection_discardLast (g : Grant) (a : Nat) (s : State) :
    (takeSection g a s).discardLast = s.discardLast := rfl
@[simp] theorem takeSection_discardCount (g : Grant) (a : Nat) (s : State) :
    (takeSection g a s).discardCount = s.discardCount := rfl
@[simp] theorem takeSection_mem (g : Grant) (a : Nat) (s : State) :
    (takeSection g a s).mem = Memory.writeAll (s.mem.filter fun c => !inFootprint (grantedAreas s g) a s.cfgFormat.slotWidth c.1)
        (s.inSpace g.bytes) := rfl
@[simp] theorem takeSection_epoch (g : Grant) (a : Nat) (s : State) : (takeSection g a s).epoch = s.epoch + 1 := rfl
@[simp] theorem takeSection_admitted (g : Grant) (a : Nat) (s : State) :
    (takeSection g a s).admitted = g.admits := rfl
@[simp] theorem takeSection_params (g : Grant) (a : Nat) (s : State) : (takeSection g a s).params = s.params := rfl
@[simp] theorem takeSection_draws (g : Grant) (a : Nat) (s : State) : (takeSection g a s).draws = s.draws := rfl
@[simp] theorem takeSection_abandoned (g : Grant) (a : Nat) (s : State) :
    (takeSection g a s).abandoned = s.abandoned := rfl
@[simp] theorem takeSection_inbox (g : Grant) (a : Nat) (s : State) : (takeSection g a s).inbox = s.inbox := rfl
@[simp] theorem takeSection_port (g : Grant) (a : Nat) (s : State) : (takeSection g a s).port = s.port := rfl
@[simp] theorem takeSection_txn (g : Grant) (a : Nat) (s : State) : (takeSection g a s).txn = s.txn := rfl
@[simp] theorem takeSection_reply (g : Grant) (a : Nat) (s : State) : (takeSection g a s).reply = s.reply := rfl

/-! ## release -/

@[simp] theorem release_cfgFormat (st : Answer) (s : State) : (release st s).cfgFormat = s.cfgFormat := rfl
@[simp] theorem release_cfgLocked (st : Answer) (s : State) : (release st s).cfgLocked = s.cfgLocked := rfl
@[simp] theorem release_channels (st : Answer) (s : State) : (release st s).channels = s.channels := rfl
@[simp] theorem release_invActive (st : Answer) (s : State) : (release st s).invActive = s.invActive := rfl
@[simp] theorem release_fcMin (st : Answer) (s : State) : (release st s).fcMin = s.fcMin := rfl
@[simp] theorem release_fcMax (st : Answer) (s : State) : (release st s).fcMax = s.fcMax := rfl
@[simp] theorem release_curState (st : Answer) (s : State) : (release st s).curState = .idle := rfl
@[simp] theorem release_granted (st : Answer) (s : State) : (release st s).granted = 0 := rfl
@[simp] theorem release_areas (st : Answer) (s : State) : (release st s).areas = [] := rfl
@[simp] theorem release_committedTotal (st : Answer) (s : State) :
    (release st s).committedTotal = (if st = .ok then addCommitted s.committedTotal s.granted else s.committedTotal) := rfl
@[simp] theorem release_shortfall (st : Answer) (s : State) : (release st s).shortfall = s.shortfall := rfl
@[simp] theorem release_broken (st : Answer) (s : State) :
    (release st s).broken = (s.broken || decide (st = .fatal)) := rfl
@[simp] theorem release_fault (st : Answer) (s : State) : (release st s).fault = s.fault := rfl
@[simp] theorem release_faultCause (st : Answer) (s : State) : (release st s).faultCause = s.faultCause := rfl
@[simp] theorem release_faultWord (st : Answer) (s : State) : (release st s).faultWord = s.faultWord := rfl
@[simp] theorem release_faultPort (st : Answer) (s : State) : (release st s).faultPort = s.faultPort := rfl
@[simp] theorem release_discardLast (st : Answer) (s : State) : (release st s).discardLast = s.discardLast := rfl
@[simp] theorem release_discardCount (st : Answer) (s : State) : (release st s).discardCount = s.discardCount := rfl
@[simp] theorem release_mem (st : Answer) (s : State) : (release st s).mem = s.mem := rfl
@[simp] theorem release_epoch (st : Answer) (s : State) : (release st s).epoch = s.epoch := rfl
@[simp] theorem release_admitted (st : Answer) (s : State) : (release st s).admitted = s.admitted := rfl
@[simp] theorem release_params (st : Answer) (s : State) : (release st s).params = s.params := rfl
@[simp] theorem release_draws (st : Answer) (s : State) : (release st s).draws = s.draws := rfl
@[simp] theorem release_abandoned (st : Answer) (s : State) : (release st s).abandoned = s.abandoned := rfl
@[simp] theorem release_inbox (st : Answer) (s : State) : (release st s).inbox = s.inbox := rfl
@[simp] theorem release_port (st : Answer) (s : State) : (release st s).port = s.port := rfl
@[simp] theorem release_txn (st : Answer) (s : State) : (release st s).txn = s.txn := rfl
@[simp] theorem release_reply (st : Answer) (s : State) : (release st s).reply = s.reply := rfl

/-! ## transportAct -/

@[simp] theorem transportAct_cfgFormat (admits : List Region) (ws : List Host.Cell) (s : State) :
    (transportAct admits ws s).cfgFormat = s.cfgFormat := rfl
@[simp] theorem transportAct_cfgLocked (admits : List Region) (ws : List Host.Cell) (s : State) :
    (transportAct admits ws s).cfgLocked = s.cfgLocked := rfl
@[simp] theorem transportAct_channels (admits : List Region) (ws : List Host.Cell) (s : State) :
    (transportAct admits ws s).channels = s.channels := rfl
@[simp] theorem transportAct_invActive (admits : List Region) (ws : List Host.Cell) (s : State) :
    (transportAct admits ws s).invActive = s.invActive := rfl
@[simp] theorem transportAct_fcMin (admits : List Region) (ws : List Host.Cell) (s : State) :
    (transportAct admits ws s).fcMin = s.fcMin := rfl
@[simp] theorem transportAct_fcMax (admits : List Region) (ws : List Host.Cell) (s : State) :
    (transportAct admits ws s).fcMax = s.fcMax := rfl
@[simp] theorem transportAct_curState (admits : List Region) (ws : List Host.Cell) (s : State) :
    (transportAct admits ws s).curState = s.curState := rfl
@[simp] theorem transportAct_granted (admits : List Region) (ws : List Host.Cell) (s : State) :
    (transportAct admits ws s).granted = s.granted := rfl
@[simp] theorem transportAct_areas (admits : List Region) (ws : List Host.Cell) (s : State) :
    (transportAct admits ws s).areas = s.areas := rfl
@[simp] theorem transportAct_committedTotal (admits : List Region) (ws : List Host.Cell) (s : State) :
    (transportAct admits ws s).committedTotal = s.committedTotal := rfl
@[simp] theorem transportAct_shortfall (admits : List Region) (ws : List Host.Cell) (s : State) :
    (transportAct admits ws s).shortfall = s.shortfall := rfl
@[simp] theorem transportAct_broken (admits : List Region) (ws : List Host.Cell) (s : State) :
    (transportAct admits ws s).broken = s.broken := rfl
@[simp] theorem transportAct_fault (admits : List Region) (ws : List Host.Cell) (s : State) :
    (transportAct admits ws s).fault = s.fault := rfl
@[simp] theorem transportAct_faultCause (admits : List Region) (ws : List Host.Cell) (s : State) :
    (transportAct admits ws s).faultCause = s.faultCause := rfl
@[simp] theorem transportAct_faultWord (admits : List Region) (ws : List Host.Cell) (s : State) :
    (transportAct admits ws s).faultWord = s.faultWord := rfl
@[simp] theorem transportAct_faultPort (admits : List Region) (ws : List Host.Cell) (s : State) :
    (transportAct admits ws s).faultPort = s.faultPort := rfl
@[simp] theorem transportAct_discardLast (admits : List Region) (ws : List Host.Cell) (s : State) :
    (transportAct admits ws s).discardLast = s.discardLast := rfl
@[simp] theorem transportAct_discardCount (admits : List Region) (ws : List Host.Cell) (s : State) :
    (transportAct admits ws s).discardCount = s.discardCount := rfl
@[simp] theorem transportAct_mem (admits : List Region) (ws : List Host.Cell) (s : State) :
    (transportAct admits ws s).mem = Memory.writeAll s.mem (s.inSpace ws) := rfl
@[simp] theorem transportAct_epoch (admits : List Region) (ws : List Host.Cell) (s : State) :
    (transportAct admits ws s).epoch = s.epoch := rfl
@[simp] theorem transportAct_admitted (admits : List Region) (ws : List Host.Cell) (s : State) :
    (transportAct admits ws s).admitted = admits := rfl
@[simp] theorem transportAct_params (admits : List Region) (ws : List Host.Cell) (s : State) :
    (transportAct admits ws s).params = s.params := rfl
@[simp] theorem transportAct_draws (admits : List Region) (ws : List Host.Cell) (s : State) :
    (transportAct admits ws s).draws = s.draws := rfl
@[simp] theorem transportAct_abandoned (admits : List Region) (ws : List Host.Cell) (s : State) :
    (transportAct admits ws s).abandoned = s.abandoned := rfl
@[simp] theorem transportAct_inbox (admits : List Region) (ws : List Host.Cell) (s : State) :
    (transportAct admits ws s).inbox = s.inbox := rfl
@[simp] theorem transportAct_port (admits : List Region) (ws : List Host.Cell) (s : State) :
    (transportAct admits ws s).port = s.port := rfl
@[simp] theorem transportAct_txn (admits : List Region) (ws : List Host.Cell) (s : State) :
    (transportAct admits ws s).txn = s.txn := rfl
@[simp] theorem transportAct_reply (admits : List Region) (ws : List Host.Cell) (s : State) :
    (transportAct admits ws s).reply = none := rfl

/-! ## waits -/

@[simp] theorem waits_cfgFormat (s : State) : (waits s).cfgFormat = s.cfgFormat := rfl
@[simp] theorem waits_cfgLocked (s : State) : (waits s).cfgLocked = s.cfgLocked := rfl
@[simp] theorem waits_channels (s : State) : (waits s).channels = s.channels := rfl
@[simp] theorem waits_invActive (s : State) : (waits s).invActive = s.invActive := rfl
@[simp] theorem waits_fcMin (s : State) : (waits s).fcMin = s.fcMin := rfl
@[simp] theorem waits_fcMax (s : State) : (waits s).fcMax = s.fcMax := rfl
@[simp] theorem waits_curState (s : State) : (waits s).curState = s.curState := rfl
@[simp] theorem waits_granted (s : State) : (waits s).granted = s.granted := rfl
@[simp] theorem waits_areas (s : State) : (waits s).areas = s.areas := rfl
@[simp] theorem waits_committedTotal (s : State) : (waits s).committedTotal = s.committedTotal := rfl
@[simp] theorem waits_shortfall (s : State) : (waits s).shortfall = s.shortfall := rfl
@[simp] theorem waits_broken (s : State) : (waits s).broken = s.broken := rfl
@[simp] theorem waits_fault (s : State) : (waits s).fault = s.fault := rfl
@[simp] theorem waits_faultCause (s : State) : (waits s).faultCause = s.faultCause := rfl
@[simp] theorem waits_faultWord (s : State) : (waits s).faultWord = s.faultWord := rfl
@[simp] theorem waits_faultPort (s : State) : (waits s).faultPort = s.faultPort := rfl
@[simp] theorem waits_discardLast (s : State) : (waits s).discardLast = s.discardLast := rfl
@[simp] theorem waits_discardCount (s : State) : (waits s).discardCount = s.discardCount := rfl
@[simp] theorem waits_mem (s : State) : (waits s).mem = s.mem := rfl
@[simp] theorem waits_epoch (s : State) : (waits s).epoch = s.epoch := rfl
@[simp] theorem waits_admitted (s : State) : (waits s).admitted = s.admitted := rfl
@[simp] theorem waits_params (s : State) : (waits s).params = s.params := rfl
@[simp] theorem waits_draws (s : State) : (waits s).draws = s.draws := rfl
@[simp] theorem waits_abandoned (s : State) : (waits s).abandoned = s.abandoned := rfl
@[simp] theorem waits_inbox (s : State) : (waits s).inbox = s.inbox := rfl
@[simp] theorem waits_port (s : State) : (waits s).port = s.port := rfl
@[simp] theorem waits_txn (s : State) : (waits s).txn = s.txn := rfl
@[simp] theorem waits_reply (s : State) : (waits s).reply = none := rfl

/-! ## accept -/

@[simp] theorem accept_cfgFormat (p : Port) (t : Transaction) (es : List Event) (s : State) :
    (accept p t es s).cfgFormat = s.cfgFormat := rfl
@[simp] theorem accept_cfgLocked (p : Port) (t : Transaction) (es : List Event) (s : State) :
    (accept p t es s).cfgLocked = s.cfgLocked := rfl
@[simp] theorem accept_channels (p : Port) (t : Transaction) (es : List Event) (s : State) :
    (accept p t es s).channels = s.channels := rfl
@[simp] theorem accept_invActive (p : Port) (t : Transaction) (es : List Event) (s : State) :
    (accept p t es s).invActive = s.invActive := rfl
@[simp] theorem accept_fcMin (p : Port) (t : Transaction) (es : List Event) (s : State) :
    (accept p t es s).fcMin = s.fcMin := rfl
@[simp] theorem accept_fcMax (p : Port) (t : Transaction) (es : List Event) (s : State) :
    (accept p t es s).fcMax = s.fcMax := rfl
@[simp] theorem accept_curState (p : Port) (t : Transaction) (es : List Event) (s : State) :
    (accept p t es s).curState = s.curState := rfl
@[simp] theorem accept_granted (p : Port) (t : Transaction) (es : List Event) (s : State) :
    (accept p t es s).granted = s.granted := rfl
@[simp] theorem accept_areas (p : Port) (t : Transaction) (es : List Event) (s : State) :
    (accept p t es s).areas = s.areas := rfl
@[simp] theorem accept_committedTotal (p : Port) (t : Transaction) (es : List Event) (s : State) :
    (accept p t es s).committedTotal = s.committedTotal := rfl
@[simp] theorem accept_shortfall (p : Port) (t : Transaction) (es : List Event) (s : State) :
    (accept p t es s).shortfall = s.shortfall := rfl
@[simp] theorem accept_broken (p : Port) (t : Transaction) (es : List Event) (s : State) :
    (accept p t es s).broken = s.broken := rfl
@[simp] theorem accept_fault (p : Port) (t : Transaction) (es : List Event) (s : State) :
    (accept p t es s).fault = s.fault := rfl
@[simp] theorem accept_faultCause (p : Port) (t : Transaction) (es : List Event) (s : State) :
    (accept p t es s).faultCause = s.faultCause := rfl
@[simp] theorem accept_faultWord (p : Port) (t : Transaction) (es : List Event) (s : State) :
    (accept p t es s).faultWord = s.faultWord := rfl
@[simp] theorem accept_faultPort (p : Port) (t : Transaction) (es : List Event) (s : State) :
    (accept p t es s).faultPort = s.faultPort := rfl
@[simp] theorem accept_discardLast (p : Port) (t : Transaction) (es : List Event) (s : State) :
    (accept p t es s).discardLast = s.discardLast := rfl
@[simp] theorem accept_discardCount (p : Port) (t : Transaction) (es : List Event) (s : State) :
    (accept p t es s).discardCount = s.discardCount := rfl
@[simp] theorem accept_mem (p : Port) (t : Transaction) (es : List Event) (s : State) :
    (accept p t es s).mem = s.mem := rfl
@[simp] theorem accept_epoch (p : Port) (t : Transaction) (es : List Event) (s : State) :
    (accept p t es s).epoch = s.epoch := rfl
@[simp] theorem accept_admitted (p : Port) (t : Transaction) (es : List Event) (s : State) :
    (accept p t es s).admitted = s.admitted := rfl
@[simp] theorem accept_params (p : Port) (t : Transaction) (es : List Event) (s : State) :
    (accept p t es s).params = s.params := rfl
@[simp] theorem accept_draws (p : Port) (t : Transaction) (es : List Event) (s : State) :
    (accept p t es s).draws = s.draws := rfl
@[simp] theorem accept_abandoned (p : Port) (t : Transaction) (es : List Event) (s : State) :
    (accept p t es s).abandoned = s.abandoned := rfl
@[simp] theorem accept_inbox (p : Port) (t : Transaction) (es : List Event) (s : State) :
    (accept p t es s).inbox = es := rfl
@[simp] theorem accept_port (p : Port) (t : Transaction) (es : List Event) (s : State) :
    (accept p t es s).port = p := rfl
@[simp] theorem accept_txn (p : Port) (t : Transaction) (es : List Event) (s : State) :
    (accept p t es s).txn = t := rfl
@[simp] theorem accept_reply (p : Port) (t : Transaction) (es : List Event) (s : State) :
    (accept p t es s).reply = none := rfl

/-! ## resetBlock -/

@[simp] theorem resetBlock_cfgFormat (s : State) : (resetBlock s).cfgFormat = State.reset.cfgFormat := rfl
@[simp] theorem resetBlock_cfgLocked (s : State) : (resetBlock s).cfgLocked = State.reset.cfgLocked := rfl
@[simp] theorem resetBlock_channels (s : State) : (resetBlock s).channels = State.reset.channels := rfl
@[simp] theorem resetBlock_invActive (s : State) : (resetBlock s).invActive = State.reset.invActive := rfl
@[simp] theorem resetBlock_fcMin (s : State) : (resetBlock s).fcMin = State.reset.fcMin := rfl
@[simp] theorem resetBlock_fcMax (s : State) : (resetBlock s).fcMax = State.reset.fcMax := rfl
@[simp] theorem resetBlock_curState (s : State) : (resetBlock s).curState = State.reset.curState := rfl
@[simp] theorem resetBlock_granted (s : State) : (resetBlock s).granted = State.reset.granted := rfl
@[simp] theorem resetBlock_areas (s : State) : (resetBlock s).areas = State.reset.areas := rfl
@[simp] theorem resetBlock_committedTotal (s : State) :
    (resetBlock s).committedTotal = State.reset.committedTotal := rfl
@[simp] theorem resetBlock_shortfall (s : State) : (resetBlock s).shortfall = State.reset.shortfall := rfl
@[simp] theorem resetBlock_broken (s : State) : (resetBlock s).broken = State.reset.broken := rfl
@[simp] theorem resetBlock_fault (s : State) : (resetBlock s).fault = State.reset.fault := rfl
@[simp] theorem resetBlock_faultCause (s : State) : (resetBlock s).faultCause = State.reset.faultCause := rfl
@[simp] theorem resetBlock_faultWord (s : State) : (resetBlock s).faultWord = State.reset.faultWord := rfl
@[simp] theorem resetBlock_faultPort (s : State) : (resetBlock s).faultPort = State.reset.faultPort := rfl
@[simp] theorem resetBlock_discardLast (s : State) : (resetBlock s).discardLast = State.reset.discardLast := rfl
@[simp] theorem resetBlock_discardCount (s : State) : (resetBlock s).discardCount = State.reset.discardCount := rfl
@[simp] theorem resetBlock_mem (s : State) : (resetBlock s).mem = s.mem := rfl
@[simp] theorem resetBlock_epoch (s : State) : (resetBlock s).epoch = s.epoch := rfl
@[simp] theorem resetBlock_admitted (s : State) : (resetBlock s).admitted = s.admitted := rfl
@[simp] theorem resetBlock_params (s : State) : (resetBlock s).params = s.params := rfl
@[simp] theorem resetBlock_draws (s : State) : (resetBlock s).draws = s.draws := rfl
@[simp] theorem resetBlock_abandoned (s : State) : (resetBlock s).abandoned = s.abandoned := rfl
@[simp] theorem resetBlock_inbox (s : State) : (resetBlock s).inbox = s.inbox := rfl
@[simp] theorem resetBlock_port (s : State) : (resetBlock s).port = s.port := rfl
@[simp] theorem resetBlock_txn (s : State) : (resetBlock s).txn = s.txn := rfl
@[simp] theorem resetBlock_reply (s : State) : (resetBlock s).reply = none := rfl

end Sys2Proof.Machine
end

