-- ==== Sys2Proof/Laws/Ops.lean ====
section
/-!
SUPPORT. What each shared operation of Machine/Ops.lean, and each access that GET and SET share, can do: one lemma
each, which later proofs cite instead of unfolding the operation.
-/

namespace Sys2Proof.Machine

/-! ## Checks -/

@[simp] theorem checked_nil (rule : State → Host.Outcome State Fault Refusal) (s : State) :
    checked [] rule s = rule s := rfl

@[simp] theorem checked_cons (b : Bool) (c : Cause) (cs : List (Bool × Cause))
    (rule : State → Host.Outcome State Fault Refusal) (s : State) :
    checked ((b, c) :: cs) rule s = if b then .next (raiseFault c s) else checked cs rule s := rfl

/-- `checked` either runs the rule, no check applying, or raises the cause of the first check that applies. -/
theorem checked_cases (cs : List (Bool × Cause)) (rule : State → Host.Outcome State Fault Refusal) (s : State) :
    ((∀ x ∈ cs, x.1 = false) ∧ checked cs rule s = rule s) ∨
    ∃ before c after, cs = before ++ (true, c) :: after ∧ (∀ x ∈ before, x.1 = false) ∧
      checked cs rule s = .next (raiseFault c s) := by
  induction cs with
  | nil => exact .inl ⟨by simp, rfl⟩
  | cons x cs ih =>
    obtain ⟨b, c⟩ := x
    cases b with
    | true => exact .inr ⟨[], c, cs, rfl, by simp, rfl⟩
    | false =>
      rcases ih with ⟨h, he⟩ | ⟨before, d, after, h, hb, he⟩
      · exact .inl ⟨by simpa using h, he⟩
      · exact .inr ⟨(false, c) :: before, d, after, by simp [h], by simpa using hb, he⟩

/-- `gated` refuses while faulted, faults on the wrong port, or runs the rule. -/
theorem gated_cases (legal : Port → Bool) (rule : State → Host.Outcome State Fault Refusal) (s : State) :
    (s.fault = true ∧ gated legal rule s = .next (refuseFaulted s)) ∨
    (s.fault = false ∧ legal s.port = false ∧ gated legal rule s = .next (raiseFault .wrongPort s)) ∨
    (s.fault = false ∧ legal s.port = true ∧ gated legal rule s = rule s) := by
  unfold gated
  cases s.fault <;> cases legal s.port <;> simp

/-- A command whose rule answers `t`, through both gates: a refusal, a fault of a named cause, or the rule itself. -/
theorem gated_checked_next {legal : Port → Bool} {checks : State → List (Bool × Cause)}
    {rule : State → Host.Outcome State Fault Refusal} {s t : State}
    (h : gated legal (fun s => checked (checks s) rule s) s = .next t) :
    (s.fault = true ∧ t = refuseFaulted s) ∨ (s.fault = false ∧ ∃ c, t = raiseFault c s) ∨
    (s.fault = false ∧ legal s.port = true ∧ (∀ x ∈ checks s, x.1 = false) ∧ rule s = .next t) := by
  rcases gated_cases legal (fun s => checked (checks s) rule s) s with ⟨hf, he⟩ | ⟨hf, -, he⟩ | ⟨hf, hp, he⟩
  · rw [he] at h; cases h; exact .inl ⟨hf, rfl⟩
  · rw [he] at h; cases h; exact .inr (.inl ⟨hf, _, rfl⟩)
  · rw [he] at h
    rcases checked_cases (checks s) rule s with ⟨ha, hr⟩ | ⟨_, c, _, -, -, hr⟩
    · rw [hr] at h; exact .inr (.inr ⟨hf, hp, ha, h⟩)
    · rw [hr] at h; cases h; exact .inr (.inl ⟨hf, c, rfl⟩)

/-! ## Sample accesses -/

/-- A sample access answers a next state only through its window, every byte of which is accessible. -/
theorem withWindow_next {s t : State} {access : List Int → Host.Outcome State Fault Refusal}
    (h : withWindow s access = .next t) :
    ∃ a, s.areas[s.txn.arg0.toNat]? = some a ∧
      (∀ x ∈ s.windowAddresses a s.txn.arg1.toNat, s.accessible x = true) ∧
      access (s.windowAddresses a s.txn.arg1.toNat) = .next t := by
  unfold withWindow sampleWindow at h
  rcases ha : s.areas[s.txn.arg0.toNat]? with _ | a
  · simp [ha] at h
  · simp only [ha, Option.map_some] at h
    split_ifs at h with hx
    exact ⟨a, rfl, List.all_eq_true.mp hx, h⟩

/-- A sample access whose window is accessible is the access. -/
theorem withWindow_accessible {s : State} {a : Area} (access : List Int → Host.Outcome State Fault Refusal)
    (ha : s.areas[s.txn.arg0.toNat]? = some a)
    (hx : ∀ x ∈ s.windowAddresses a s.txn.arg1.toNat, s.accessible x = true) :
    withWindow s access = access (s.windowAddresses a s.txn.arg1.toNat) := by
  simp [withWindow, sampleWindow, ha, List.all_eq_true.mpr hx]

/-- A sample access with a byte that may not be accessed is stuck. -/
theorem withWindow_stuck {s : State} {a : Area} {x : Int} (access : List Int → Host.Outcome State Fault Refusal)
    (ha : s.areas[s.txn.arg0.toNat]? = some a) (hm : x ∈ s.windowAddresses a s.txn.arg1.toNat)
    (hx : s.accessible x = false) : withWindow s access = .fault .stuckAccess := by
  have : (s.windowAddresses a s.txn.arg1.toNat).all s.accessible = false :=
    List.all_eq_false.mpr ⟨x, hm, by simp [hx]⟩
  simp [withWindow, sampleWindow, ha, this]

@[simp] theorem length_windowAddresses (s : State) (a : Area) (f : Nat) :
    (s.windowAddresses a f).length = s.cfgFormat.rep.rawWidth := by
  simp [State.windowAddresses]

/-- A window's addresses are the ones from WA on. -/
theorem mem_windowAddresses {s : State} {a : Area} {f : Nat} {x : Int} :
    x ∈ s.windowAddresses a f ↔ ∃ i < s.cfgFormat.rep.rawWidth, x = s.windowAddress a f + (i : Nat) := by
  simp [State.windowAddresses, eq_comm]

/-- A byte of the address space that is not among a window's bytes keeps its value under a write of the window. -/
theorem writeWindow_read_other (s : State) (xs : List Int) (bs : List Byte) (a : Nat)
    (h : ∀ x ∈ xs, x.toNat ≠ a) : (s.writeWindow xs bs).readByte a = s.readByte a := by
  unfold State.readByte State.writeWindow
  dsimp only
  rw [Memory.read_writeAll_other]
  intro c hc
  obtain ⟨x, hx, hxc⟩ := List.mem_map.mp (List.of_mem_zip hc).1
  exact hxc ▸ h x hx

/-! ## The grant and the release -/

/-- The grant is at most the request and at most what the transport has ready. -/
theorem grantedFrames_le (g : Grant) (n : Bus) : grantedFrames g n ≤ n.toNat ∧ grantedFrames g n ≤ g.frames :=
  ⟨Nat.min_le_right _ _, Nat.min_le_left _ _⟩

@[simp] theorem length_grantedAreas (s : State) (g : Grant) : (grantedAreas s g).length = s.channels.toNat := by
  simp [grantedAreas]

/-- Every base the grant loads fits in ADDR_W bits. -/
theorem grantedAreas_base {s : State} {g : Grant} {a : Area} (h : a ∈ grantedAreas s g) :
    a.base < 2 ^ s.params.addrW := by
  obtain ⟨c, -, rfl⟩ := List.mem_map.mp h
  exact Nat.mod_lt _ (Nat.pow_pos (by norm_num))

/-- A taken section keeps buffer memory canonical and inside the space. -/
theorem takeSection_canonical (g : Grant) (a : Nat) {s : State} (hw : Memory.wf s.mem)
    (hs : ∀ c ∈ s.mem, c.1 < 2 ^ s.params.addrW) :
    Memory.wf (takeSection g a s).mem ∧ ∀ c ∈ (takeSection g a s).mem, c.1 < 2 ^ s.params.addrW := by
  refine ⟨Memory.writeAll_wf _ (Memory.filter_wf _ hw), fun c hc => ?_⟩
  rcases Memory.mem_writeAll _ hc with h | h
  · exact hs c (List.mem_of_mem_filter h)
  · simpa using (List.mem_filter.mp h).2

/-- The implicit commit of INV_END leaves the cursor idle, with no section. -/
theorem implicitCommit_idle (s : State) : (implicitCommit s).curState = .idle := by
  unfold implicitCommit
  split
  · assumption
  · dsimp only; split <;> rfl

/-! ## Events -/

/-- `takeReset` finds the first reset event, and none only where there is none. -/
theorem takeReset_eq (es : List Event) :
    (Event.reset ∉ es ∧ takeReset es = none) ∨
    ∃ before after, es = before ++ .reset :: after ∧ Event.reset ∉ before ∧
      takeReset es = some (before ++ after) := by
  induction es with
  | nil => exact .inl ⟨by simp, rfl⟩
  | cons e es ih =>
    by_cases he : e = .reset
    · subst he; exact .inr ⟨[], es, rfl, by simp, rfl⟩
    · have hc : takeReset (e :: es) = (takeReset es).map (e :: ·) := by
        cases e <;> first | rfl | exact absurd rfl he
      rcases ih with ⟨h, ht⟩ | ⟨before, after, h, hb, ht⟩
      · exact .inl ⟨by simp [h, Ne.symm he], by rw [hc, ht]; rfl⟩
      · exact .inr ⟨e :: before, after, by simp [h], by simp [hb, Ne.symm he], by rw [hc, ht]; rfl⟩

/-- A stuck command stops the machine unless a reset is still to come, which abandons and counts it. -/
theorem orAbandoned_cases (s : State) (o : Host.Outcome State Fault Refusal) :
    (∃ f, o = .fault f ∧
      ((Event.reset ∉ s.inbox ∧ orAbandoned s o = .fault f) ∨
       ∃ before after, s.inbox = before ++ .reset :: after ∧ Event.reset ∉ before ∧
        orAbandoned s o =
          .next (resetBlock { s with inbox := before ++ after, abandoned := s.abandoned + 1 }))) ∨
    ((∀ f, o ≠ .fault f) ∧ orAbandoned s o = o) := by
  cases o with
  | next t => exact .inr ⟨by simp, rfl⟩
  | refused r => exact .inr ⟨by simp, rfl⟩
  | fault f =>
    refine .inl ⟨f, rfl, ?_⟩
    rcases takeReset_eq s.inbox with ⟨h, ht⟩ | ⟨before, after, h, hb, ht⟩
    · exact .inl ⟨h, by simp [orAbandoned, ht]⟩
    · exact .inr ⟨before, after, h, hb, by simp [orAbandoned, ht]⟩

end Sys2Proof.Machine
end

