-- ==== Sys2Proof/Laws/PerInstr.lean ====
section
/-!
SUPPORT. Per-instruction laws, one lemma per constructor of `Instr`. `Encoding`: an instruction's word decodes to it
(30_encoding.md R83).
-/

namespace Sys2Proof.Laws

/-- The word of an instruction decodes to that instruction. -/
def Encoding.Statement (i : Instr) : Prop :=
  decode (encode i) = .command i

theorem Encoding.cvtU8U8 : Encoding.Statement .cvtU8U8 := by unfold Encoding.Statement; decide
theorem Encoding.cvtU8U16 : Encoding.Statement .cvtU8U16 := by unfold Encoding.Statement; decide
theorem Encoding.cvtU8U24 : Encoding.Statement .cvtU8U24 := by unfold Encoding.Statement; decide
theorem Encoding.cvtU8U32 : Encoding.Statement .cvtU8U32 := by unfold Encoding.Statement; decide
theorem Encoding.cvtU8I8 : Encoding.Statement .cvtU8I8 := by unfold Encoding.Statement; decide
theorem Encoding.cvtU8I16 : Encoding.Statement .cvtU8I16 := by unfold Encoding.Statement; decide
theorem Encoding.cvtU8I24 : Encoding.Statement .cvtU8I24 := by unfold Encoding.Statement; decide
theorem Encoding.cvtU8I32 : Encoding.Statement .cvtU8I32 := by unfold Encoding.Statement; decide
theorem Encoding.cvtU8F32 : Encoding.Statement .cvtU8F32 := by unfold Encoding.Statement; decide
theorem Encoding.cvtU8F64 : Encoding.Statement .cvtU8F64 := by unfold Encoding.Statement; decide
theorem Encoding.cvtU16U8 : Encoding.Statement .cvtU16U8 := by unfold Encoding.Statement; decide
theorem Encoding.cvtU16U16 : Encoding.Statement .cvtU16U16 := by unfold Encoding.Statement; decide
theorem Encoding.cvtU16U24 : Encoding.Statement .cvtU16U24 := by unfold Encoding.Statement; decide
theorem Encoding.cvtU16U32 : Encoding.Statement .cvtU16U32 := by unfold Encoding.Statement; decide
theorem Encoding.cvtU16I8 : Encoding.Statement .cvtU16I8 := by unfold Encoding.Statement; decide
theorem Encoding.cvtU16I16 : Encoding.Statement .cvtU16I16 := by unfold Encoding.Statement; decide
theorem Encoding.cvtU16I24 : Encoding.Statement .cvtU16I24 := by unfold Encoding.Statement; decide
theorem Encoding.cvtU16I32 : Encoding.Statement .cvtU16I32 := by unfold Encoding.Statement; decide
theorem Encoding.cvtU16F32 : Encoding.Statement .cvtU16F32 := by unfold Encoding.Statement; decide
theorem Encoding.cvtU16F64 : Encoding.Statement .cvtU16F64 := by unfold Encoding.Statement; decide
theorem Encoding.cvtU24U8 : Encoding.Statement .cvtU24U8 := by unfold Encoding.Statement; decide
theorem Encoding.cvtU24U16 : Encoding.Statement .cvtU24U16 := by unfold Encoding.Statement; decide
theorem Encoding.cvtU24U24 : Encoding.Statement .cvtU24U24 := by unfold Encoding.Statement; decide
theorem Encoding.cvtU24U32 : Encoding.Statement .cvtU24U32 := by unfold Encoding.Statement; decide
theorem Encoding.cvtU24I8 : Encoding.Statement .cvtU24I8 := by unfold Encoding.Statement; decide
theorem Encoding.cvtU24I16 : Encoding.Statement .cvtU24I16 := by unfold Encoding.Statement; decide
theorem Encoding.cvtU24I24 : Encoding.Statement .cvtU24I24 := by unfold Encoding.Statement; decide
theorem Encoding.cvtU24I32 : Encoding.Statement .cvtU24I32 := by unfold Encoding.Statement; decide
theorem Encoding.cvtU24F32 : Encoding.Statement .cvtU24F32 := by unfold Encoding.Statement; decide
theorem Encoding.cvtU24F64 : Encoding.Statement .cvtU24F64 := by unfold Encoding.Statement; decide
theorem Encoding.cvtU32U8 : Encoding.Statement .cvtU32U8 := by unfold Encoding.Statement; decide
theorem Encoding.cvtU32U16 : Encoding.Statement .cvtU32U16 := by unfold Encoding.Statement; decide
theorem Encoding.cvtU32U24 : Encoding.Statement .cvtU32U24 := by unfold Encoding.Statement; decide
theorem Encoding.cvtU32U32 : Encoding.Statement .cvtU32U32 := by unfold Encoding.Statement; decide
theorem Encoding.cvtU32I8 : Encoding.Statement .cvtU32I8 := by unfold Encoding.Statement; decide
theorem Encoding.cvtU32I16 : Encoding.Statement .cvtU32I16 := by unfold Encoding.Statement; decide
theorem Encoding.cvtU32I24 : Encoding.Statement .cvtU32I24 := by unfold Encoding.Statement; decide
theorem Encoding.cvtU32I32 : Encoding.Statement .cvtU32I32 := by unfold Encoding.Statement; decide
theorem Encoding.cvtU32F32 : Encoding.Statement .cvtU32F32 := by unfold Encoding.Statement; decide
theorem Encoding.cvtU32F64 : Encoding.Statement .cvtU32F64 := by unfold Encoding.Statement; decide
theorem Encoding.cvtI8U8 : Encoding.Statement .cvtI8U8 := by unfold Encoding.Statement; decide
theorem Encoding.cvtI8U16 : Encoding.Statement .cvtI8U16 := by unfold Encoding.Statement; decide
theorem Encoding.cvtI8U24 : Encoding.Statement .cvtI8U24 := by unfold Encoding.Statement; decide
theorem Encoding.cvtI8U32 : Encoding.Statement .cvtI8U32 := by unfold Encoding.Statement; decide
theorem Encoding.cvtI8I8 : Encoding.Statement .cvtI8I8 := by unfold Encoding.Statement; decide
theorem Encoding.cvtI8I16 : Encoding.Statement .cvtI8I16 := by unfold Encoding.Statement; decide
theorem Encoding.cvtI8I24 : Encoding.Statement .cvtI8I24 := by unfold Encoding.Statement; decide
theorem Encoding.cvtI8I32 : Encoding.Statement .cvtI8I32 := by unfold Encoding.Statement; decide
theorem Encoding.cvtI8F32 : Encoding.Statement .cvtI8F32 := by unfold Encoding.Statement; decide
theorem Encoding.cvtI8F64 : Encoding.Statement .cvtI8F64 := by unfold Encoding.Statement; decide
theorem Encoding.cvtI16U8 : Encoding.Statement .cvtI16U8 := by unfold Encoding.Statement; decide
theorem Encoding.cvtI16U16 : Encoding.Statement .cvtI16U16 := by unfold Encoding.Statement; decide
theorem Encoding.cvtI16U24 : Encoding.Statement .cvtI16U24 := by unfold Encoding.Statement; decide
theorem Encoding.cvtI16U32 : Encoding.Statement .cvtI16U32 := by unfold Encoding.Statement; decide
theorem Encoding.cvtI16I8 : Encoding.Statement .cvtI16I8 := by unfold Encoding.Statement; decide
theorem Encoding.cvtI16I16 : Encoding.Statement .cvtI16I16 := by unfold Encoding.Statement; decide
theorem Encoding.cvtI16I24 : Encoding.Statement .cvtI16I24 := by unfold Encoding.Statement; decide
theorem Encoding.cvtI16I32 : Encoding.Statement .cvtI16I32 := by unfold Encoding.Statement; decide
theorem Encoding.cvtI16F32 : Encoding.Statement .cvtI16F32 := by unfold Encoding.Statement; decide
theorem Encoding.cvtI16F64 : Encoding.Statement .cvtI16F64 := by unfold Encoding.Statement; decide
theorem Encoding.cvtI24U8 : Encoding.Statement .cvtI24U8 := by unfold Encoding.Statement; decide
theorem Encoding.cvtI24U16 : Encoding.Statement .cvtI24U16 := by unfold Encoding.Statement; decide
theorem Encoding.cvtI24U24 : Encoding.Statement .cvtI24U24 := by unfold Encoding.Statement; decide
theorem Encoding.cvtI24U32 : Encoding.Statement .cvtI24U32 := by unfold Encoding.Statement; decide
theorem Encoding.cvtI24I8 : Encoding.Statement .cvtI24I8 := by unfold Encoding.Statement; decide
theorem Encoding.cvtI24I16 : Encoding.Statement .cvtI24I16 := by unfold Encoding.Statement; decide
theorem Encoding.cvtI24I24 : Encoding.Statement .cvtI24I24 := by unfold Encoding.Statement; decide
theorem Encoding.cvtI24I32 : Encoding.Statement .cvtI24I32 := by unfold Encoding.Statement; decide
theorem Encoding.cvtI24F32 : Encoding.Statement .cvtI24F32 := by unfold Encoding.Statement; decide
theorem Encoding.cvtI24F64 : Encoding.Statement .cvtI24F64 := by unfold Encoding.Statement; decide
theorem Encoding.cvtI32U8 : Encoding.Statement .cvtI32U8 := by unfold Encoding.Statement; decide
theorem Encoding.cvtI32U16 : Encoding.Statement .cvtI32U16 := by unfold Encoding.Statement; decide
theorem Encoding.cvtI32U24 : Encoding.Statement .cvtI32U24 := by unfold Encoding.Statement; decide
theorem Encoding.cvtI32U32 : Encoding.Statement .cvtI32U32 := by unfold Encoding.Statement; decide
theorem Encoding.cvtI32I8 : Encoding.Statement .cvtI32I8 := by unfold Encoding.Statement; decide
theorem Encoding.cvtI32I16 : Encoding.Statement .cvtI32I16 := by unfold Encoding.Statement; decide
theorem Encoding.cvtI32I24 : Encoding.Statement .cvtI32I24 := by unfold Encoding.Statement; decide
theorem Encoding.cvtI32I32 : Encoding.Statement .cvtI32I32 := by unfold Encoding.Statement; decide
theorem Encoding.cvtI32F32 : Encoding.Statement .cvtI32F32 := by unfold Encoding.Statement; decide
theorem Encoding.cvtI32F64 : Encoding.Statement .cvtI32F64 := by unfold Encoding.Statement; decide
theorem Encoding.cvtF32U8 : Encoding.Statement .cvtF32U8 := by unfold Encoding.Statement; decide
theorem Encoding.cvtF32U16 : Encoding.Statement .cvtF32U16 := by unfold Encoding.Statement; decide
theorem Encoding.cvtF32U24 : Encoding.Statement .cvtF32U24 := by unfold Encoding.Statement; decide
theorem Encoding.cvtF32U32 : Encoding.Statement .cvtF32U32 := by unfold Encoding.Statement; decide
theorem Encoding.cvtF32I8 : Encoding.Statement .cvtF32I8 := by unfold Encoding.Statement; decide
theorem Encoding.cvtF32I16 : Encoding.Statement .cvtF32I16 := by unfold Encoding.Statement; decide
theorem Encoding.cvtF32I24 : Encoding.Statement .cvtF32I24 := by unfold Encoding.Statement; decide
theorem Encoding.cvtF32I32 : Encoding.Statement .cvtF32I32 := by unfold Encoding.Statement; decide
theorem Encoding.cvtF32F32 : Encoding.Statement .cvtF32F32 := by unfold Encoding.Statement; decide
theorem Encoding.cvtF32F64 : Encoding.Statement .cvtF32F64 := by unfold Encoding.Statement; decide
theorem Encoding.cvtF64U8 : Encoding.Statement .cvtF64U8 := by unfold Encoding.Statement; decide
theorem Encoding.cvtF64U16 : Encoding.Statement .cvtF64U16 := by unfold Encoding.Statement; decide
theorem Encoding.cvtF64U24 : Encoding.Statement .cvtF64U24 := by unfold Encoding.Statement; decide
theorem Encoding.cvtF64U32 : Encoding.Statement .cvtF64U32 := by unfold Encoding.Statement; decide
theorem Encoding.cvtF64I8 : Encoding.Statement .cvtF64I8 := by unfold Encoding.Statement; decide
theorem Encoding.cvtF64I16 : Encoding.Statement .cvtF64I16 := by unfold Encoding.Statement; decide
theorem Encoding.cvtF64I24 : Encoding.Statement .cvtF64I24 := by unfold Encoding.Statement; decide
theorem Encoding.cvtF64I32 : Encoding.Statement .cvtF64I32 := by unfold Encoding.Statement; decide
theorem Encoding.cvtF64F32 : Encoding.Statement .cvtF64F32 := by unfold Encoding.Statement; decide
theorem Encoding.cvtF64F64 : Encoding.Statement .cvtF64F64 := by unfold Encoding.Statement; decide
theorem Encoding.rawrdU8Le : Encoding.Statement .rawrdU8Le := by unfold Encoding.Statement; decide
theorem Encoding.rawrdU8Be : Encoding.Statement .rawrdU8Be := by unfold Encoding.Statement; decide
theorem Encoding.rawrdU16Le : Encoding.Statement .rawrdU16Le := by unfold Encoding.Statement; decide
theorem Encoding.rawrdU16Be : Encoding.Statement .rawrdU16Be := by unfold Encoding.Statement; decide
theorem Encoding.rawrdU24Le : Encoding.Statement .rawrdU24Le := by unfold Encoding.Statement; decide
theorem Encoding.rawrdU24Be : Encoding.Statement .rawrdU24Be := by unfold Encoding.Statement; decide
theorem Encoding.rawrdU32Le : Encoding.Statement .rawrdU32Le := by unfold Encoding.Statement; decide
theorem Encoding.rawrdU32Be : Encoding.Statement .rawrdU32Be := by unfold Encoding.Statement; decide
theorem Encoding.rawrdI8Le : Encoding.Statement .rawrdI8Le := by unfold Encoding.Statement; decide
theorem Encoding.rawrdI8Be : Encoding.Statement .rawrdI8Be := by unfold Encoding.Statement; decide
theorem Encoding.rawrdI16Le : Encoding.Statement .rawrdI16Le := by unfold Encoding.Statement; decide
theorem Encoding.rawrdI16Be : Encoding.Statement .rawrdI16Be := by unfold Encoding.Statement; decide
theorem Encoding.rawrdI24Le : Encoding.Statement .rawrdI24Le := by unfold Encoding.Statement; decide
theorem Encoding.rawrdI24Be : Encoding.Statement .rawrdI24Be := by unfold Encoding.Statement; decide
theorem Encoding.rawrdI32Le : Encoding.Statement .rawrdI32Le := by unfold Encoding.Statement; decide
theorem Encoding.rawrdI32Be : Encoding.Statement .rawrdI32Be := by unfold Encoding.Statement; decide
theorem Encoding.rawrdF32Le : Encoding.Statement .rawrdF32Le := by unfold Encoding.Statement; decide
theorem Encoding.rawrdF32Be : Encoding.Statement .rawrdF32Be := by unfold Encoding.Statement; decide
theorem Encoding.rawrdF64Le : Encoding.Statement .rawrdF64Le := by unfold Encoding.Statement; decide
theorem Encoding.rawrdF64Be : Encoding.Statement .rawrdF64Be := by unfold Encoding.Statement; decide
theorem Encoding.rawwrU8Le : Encoding.Statement .rawwrU8Le := by unfold Encoding.Statement; decide
theorem Encoding.rawwrU8Be : Encoding.Statement .rawwrU8Be := by unfold Encoding.Statement; decide
theorem Encoding.rawwrU16Le : Encoding.Statement .rawwrU16Le := by unfold Encoding.Statement; decide
theorem Encoding.rawwrU16Be : Encoding.Statement .rawwrU16Be := by unfold Encoding.Statement; decide
theorem Encoding.rawwrU24Le : Encoding.Statement .rawwrU24Le := by unfold Encoding.Statement; decide
theorem Encoding.rawwrU24Be : Encoding.Statement .rawwrU24Be := by unfold Encoding.Statement; decide
theorem Encoding.rawwrU32Le : Encoding.Statement .rawwrU32Le := by unfold Encoding.Statement; decide
theorem Encoding.rawwrU32Be : Encoding.Statement .rawwrU32Be := by unfold Encoding.Statement; decide
theorem Encoding.rawwrI8Le : Encoding.Statement .rawwrI8Le := by unfold Encoding.Statement; decide
theorem Encoding.rawwrI8Be : Encoding.Statement .rawwrI8Be := by unfold Encoding.Statement; decide
theorem Encoding.rawwrI16Le : Encoding.Statement .rawwrI16Le := by unfold Encoding.Statement; decide
theorem Encoding.rawwrI16Be : Encoding.Statement .rawwrI16Be := by unfold Encoding.Statement; decide
theorem Encoding.rawwrI24Le : Encoding.Statement .rawwrI24Le := by unfold Encoding.Statement; decide
theorem Encoding.rawwrI24Be : Encoding.Statement .rawwrI24Be := by unfold Encoding.Statement; decide
theorem Encoding.rawwrI32Le : Encoding.Statement .rawwrI32Le := by unfold Encoding.Statement; decide
theorem Encoding.rawwrI32Be : Encoding.Statement .rawwrI32Be := by unfold Encoding.Statement; decide
theorem Encoding.rawwrF32Le : Encoding.Statement .rawwrF32Le := by unfold Encoding.Statement; decide
theorem Encoding.rawwrF32Be : Encoding.Statement .rawwrF32Be := by unfold Encoding.Statement; decide
theorem Encoding.rawwrF64Le : Encoding.Statement .rawwrF64Le := by unfold Encoding.Statement; decide
theorem Encoding.rawwrF64Be : Encoding.Statement .rawwrF64Be := by unfold Encoding.Statement; decide
theorem Encoding.acquire : Encoding.Statement .acquire := by unfold Encoding.Statement; decide
theorem Encoding.getU8 : Encoding.Statement .getU8 := by unfold Encoding.Statement; decide
theorem Encoding.getU16 : Encoding.Statement .getU16 := by unfold Encoding.Statement; decide
theorem Encoding.getU24 : Encoding.Statement .getU24 := by unfold Encoding.Statement; decide
theorem Encoding.getU32 : Encoding.Statement .getU32 := by unfold Encoding.Statement; decide
theorem Encoding.getI8 : Encoding.Statement .getI8 := by unfold Encoding.Statement; decide
theorem Encoding.getI16 : Encoding.Statement .getI16 := by unfold Encoding.Statement; decide
theorem Encoding.getI24 : Encoding.Statement .getI24 := by unfold Encoding.Statement; decide
theorem Encoding.getI32 : Encoding.Statement .getI32 := by unfold Encoding.Statement; decide
theorem Encoding.getF32 : Encoding.Statement .getF32 := by unfold Encoding.Statement; decide
theorem Encoding.getF64 : Encoding.Statement .getF64 := by unfold Encoding.Statement; decide
theorem Encoding.setU8 : Encoding.Statement .setU8 := by unfold Encoding.Statement; decide
theorem Encoding.setU16 : Encoding.Statement .setU16 := by unfold Encoding.Statement; decide
theorem Encoding.setU24 : Encoding.Statement .setU24 := by unfold Encoding.Statement; decide
theorem Encoding.setU32 : Encoding.Statement .setU32 := by unfold Encoding.Statement; decide
theorem Encoding.setI8 : Encoding.Statement .setI8 := by unfold Encoding.Statement; decide
theorem Encoding.setI16 : Encoding.Statement .setI16 := by unfold Encoding.Statement; decide
theorem Encoding.setI24 : Encoding.Statement .setI24 := by unfold Encoding.Statement; decide
theorem Encoding.setI32 : Encoding.Statement .setI32 := by unfold Encoding.Statement; decide
theorem Encoding.setF32 : Encoding.Statement .setF32 := by unfold Encoding.Statement; decide
theorem Encoding.setF64 : Encoding.Statement .setF64 := by unfold Encoding.Statement; decide
theorem Encoding.commit : Encoding.Statement .commit := by unfold Encoding.Statement; decide
theorem Encoding.area : Encoding.Statement .area := by unfold Encoding.Statement; decide
theorem Encoding.configure : Encoding.Statement .configure := by unfold Encoding.Statement; decide
theorem Encoding.invStart : Encoding.Statement .invStart := by unfold Encoding.Statement; decide
theorem Encoding.invEnd : Encoding.Statement .invEnd := by unfold Encoding.Statement; decide
theorem Encoding.rdreg : Encoding.Statement .rdreg := by unfold Encoding.Statement; decide

end Sys2Proof.Laws
end

