-- ==== Sys2Proof/Laws/Run.lean ====
section
/-!
SUPPORT. A run of the machine in terms of its own step, so that no proof looks through Sys2Proof.core.
-/

namespace Sys2Proof.Machine

theorem run_zero (s : State) : Host.Core.run Sys2Proof.core 0 s = .next s := rfl

/-- A run of `k + 1` steps is one step and, where it answers a next state, a run of `k` steps from there. -/
theorem run_succ (k : Nat) (s : State) :
    Host.Core.run Sys2Proof.core (k + 1) s =
      match step s with
      | .next t => Host.Core.run Sys2Proof.core k t
      | .fault f => .fault f
      | .refused r => .refused r := by
  simp only [Host.Core.run]
  cases h : Sys2Proof.core.step s <;> simp only [show step s = _ from h]

/-- What every step keeps from one state to the next, a run keeps from its first state to its last. -/
theorem run_rel {R : State → State → Prop} (hr : ∀ s, R s s) (ht : ∀ {s t u}, R s t → R t u → R s u)
    (h : ∀ {s t}, step s = .next t → R s t) :
    ∀ {k : Nat} {s u : State}, Host.Core.run Sys2Proof.core k s = .next u → R s u := by
  intro k
  induction k with
  | zero => intro s u e; cases e; exact hr s
  | succ k ih =>
    intro s u e
    rw [run_succ] at e
    cases hs : step s <;> simp only [hs] at e
    · exact ht (h hs) (ih e)
    all_goals cases e

end Sys2Proof.Machine
end

