-- ==== Sys2Proof/Tests/Slice0.lean ====
section
/-!
SUPPORT. Tests of slice 0: what WellFormed refuses, every command's word written out from spec/opcode_table.json,
vectors of spec/95_test_vectors.md, and for each statement with hypotheses a named witness that they can be met.
-/

namespace Sys2Proof.Tests

open Sys2Proof.Machine Sys2Proof.Safety

/-! ## Ill-formed fields (WellFormed.lean) -/

/-- The fields are refused by `wellFormed`, and the decoder refuses them by this name. -/
def refusedAs (f : Fields) (c : Illegal) : Bool :=
  !f.wellFormed && decide (decodeFields f = .illegal c)

theorem test_wf_reserved_bits : refusedAs ⟨0x0, 0, 0, 0, 1⟩ .reservedBits = true := by decide
theorem test_wf_reserved_bit_18 : refusedAs ⟨0xB, 0, 0, 0, 0x40000⟩ .reservedBits = true := by decide
theorem test_wf_reserved_opcode : refusedAs ⟨0xC, 0, 0, 0, 0⟩ .illegalOpcode = true := by decide
theorem test_wf_cvt_source_code : refusedAs ⟨0x0, 0xA, 0, 0, 0⟩ .illegalRep = true := by decide
theorem test_wf_cvt_destination_code : refusedAs ⟨0x0, 0, 0xF, 0, 0⟩ .illegalRep = true := by decide
theorem test_wf_cvt_e : refusedAs ⟨0x0, 0, 0, 1, 0⟩ .reservedBits = true := by decide
theorem test_wf_rawrd_code : refusedAs ⟨0x1, 0xA, 0, 1, 0⟩ .illegalRep = true := by decide
theorem test_wf_rawrd_rb : refusedAs ⟨0x1, 0, 1, 0, 0⟩ .reservedBits = true := by decide
theorem test_wf_rawwr_code : refusedAs ⟨0x2, 0xA, 0, 0, 0⟩ .illegalRep = true := by decide
theorem test_wf_rawwr_rb : refusedAs ⟨0x2, 0, 1, 1, 0⟩ .reservedBits = true := by decide
theorem test_wf_get_code : refusedAs ⟨0x4, 0xA, 0, 0, 0⟩ .illegalRep = true := by decide
theorem test_wf_get_e : refusedAs ⟨0x4, 0, 0, 1, 0⟩ .reservedBits = true := by decide
theorem test_wf_get_rb : refusedAs ⟨0x4, 0, 8, 0, 0⟩ .reservedBits = true := by decide
theorem test_wf_set_code : refusedAs ⟨0x5, 0xF, 0, 0, 0⟩ .illegalRep = true := by decide
theorem test_wf_set_rb : refusedAs ⟨0x5, 0, 8, 0, 0⟩ .reservedBits = true := by decide
theorem test_wf_fixed_words :
    ([0x3, 0x6, 0x7, 0x8, 0x9, 0xA, 0xB] : List (BitVec 4)).all (fun o =>
      refusedAs ⟨o, 1, 0, 0, 0⟩ .reservedBits && refusedAs ⟨o, 0, 1, 0, 0⟩ .reservedBits
        && refusedAs ⟨o, 0, 0, 1, 0⟩ .reservedBits && (⟨o, 0, 0, 0, 0⟩ : Fields).wellFormed) = true := by
  decide

/-! ## The 167 words, from spec/opcode_table.json -/

/-- Every word of the list decodes to its command, as a word and as a row of the table, and is its encoding. -/
def decodesAll (l : List (Nat × Instr)) : Bool :=
  l.all fun p => decide (decode (BitVec.ofNat 32 p.1) = .command p.2) && decide (decodeTableWord 32 p.1 = some p.2)
    && decide (encode p.2 = BitVec.ofNat 32 p.1)

def wordsCvtU8 : List (Nat × Instr) :=
  [(0x00000000, .cvtU8U8), (0x00100000, .cvtU8U16), (0x00200000, .cvtU8U24), (0x00300000, .cvtU8U32),
   (0x00400000, .cvtU8I8), (0x00500000, .cvtU8I16), (0x00600000, .cvtU8I24), (0x00700000, .cvtU8I32),
   (0x00800000, .cvtU8F32), (0x00900000, .cvtU8F64)]

def wordsCvtU16 : List (Nat × Instr) :=
  [(0x01000000, .cvtU16U8), (0x01100000, .cvtU16U16), (0x01200000, .cvtU16U24),
   (0x01300000, .cvtU16U32), (0x01400000, .cvtU16I8), (0x01500000, .cvtU16I16),
   (0x01600000, .cvtU16I24), (0x01700000, .cvtU16I32), (0x01800000, .cvtU16F32),
   (0x01900000, .cvtU16F64)]

def wordsCvtU24 : List (Nat × Instr) :=
  [(0x02000000, .cvtU24U8), (0x02100000, .cvtU24U16), (0x02200000, .cvtU24U24),
   (0x02300000, .cvtU24U32), (0x02400000, .cvtU24I8), (0x02500000, .cvtU24I16),
   (0x02600000, .cvtU24I24), (0x02700000, .cvtU24I32), (0x02800000, .cvtU24F32),
   (0x02900000, .cvtU24F64)]

def wordsCvtU32 : List (Nat × Instr) :=
  [(0x03000000, .cvtU32U8), (0x03100000, .cvtU32U16), (0x03200000, .cvtU32U24),
   (0x03300000, .cvtU32U32), (0x03400000, .cvtU32I8), (0x03500000, .cvtU32I16),
   (0x03600000, .cvtU32I24), (0x03700000, .cvtU32I32), (0x03800000, .cvtU32F32),
   (0x03900000, .cvtU32F64)]

def wordsCvtI8 : List (Nat × Instr) :=
  [(0x04000000, .cvtI8U8), (0x04100000, .cvtI8U16), (0x04200000, .cvtI8U24), (0x04300000, .cvtI8U32),
   (0x04400000, .cvtI8I8), (0x04500000, .cvtI8I16), (0x04600000, .cvtI8I24), (0x04700000, .cvtI8I32),
   (0x04800000, .cvtI8F32), (0x04900000, .cvtI8F64)]

def wordsCvtI16 : List (Nat × Instr) :=
  [(0x05000000, .cvtI16U8), (0x05100000, .cvtI16U16), (0x05200000, .cvtI16U24),
   (0x05300000, .cvtI16U32), (0x05400000, .cvtI16I8), (0x05500000, .cvtI16I16),
   (0x05600000, .cvtI16I24), (0x05700000, .cvtI16I32), (0x05800000, .cvtI16F32),
   (0x05900000, .cvtI16F64)]

def wordsCvtI24 : List (Nat × Instr) :=
  [(0x06000000, .cvtI24U8), (0x06100000, .cvtI24U16), (0x06200000, .cvtI24U24),
   (0x06300000, .cvtI24U32), (0x06400000, .cvtI24I8), (0x06500000, .cvtI24I16),
   (0x06600000, .cvtI24I24), (0x06700000, .cvtI24I32), (0x06800000, .cvtI24F32),
   (0x06900000, .cvtI24F64)]

def wordsCvtI32 : List (Nat × Instr) :=
  [(0x07000000, .cvtI32U8), (0x07100000, .cvtI32U16), (0x07200000, .cvtI32U24),
   (0x07300000, .cvtI32U32), (0x07400000, .cvtI32I8), (0x07500000, .cvtI32I16),
   (0x07600000, .cvtI32I24), (0x07700000, .cvtI32I32), (0x07800000, .cvtI32F32),
   (0x07900000, .cvtI32F64)]

def wordsCvtF32 : List (Nat × Instr) :=
  [(0x08000000, .cvtF32U8), (0x08100000, .cvtF32U16), (0x08200000, .cvtF32U24),
   (0x08300000, .cvtF32U32), (0x08400000, .cvtF32I8), (0x08500000, .cvtF32I16),
   (0x08600000, .cvtF32I24), (0x08700000, .cvtF32I32), (0x08800000, .cvtF32F32),
   (0x08900000, .cvtF32F64)]

def wordsCvtF64 : List (Nat × Instr) :=
  [(0x09000000, .cvtF64U8), (0x09100000, .cvtF64U16), (0x09200000, .cvtF64U24),
   (0x09300000, .cvtF64U32), (0x09400000, .cvtF64I8), (0x09500000, .cvtF64I16),
   (0x09600000, .cvtF64I24), (0x09700000, .cvtF64I32), (0x09800000, .cvtF64F32),
   (0x09900000, .cvtF64F64)]

def wordsRawrd : List (Nat × Instr) :=
  [(0x10000000, .rawrdU8Le), (0x10080000, .rawrdU8Be), (0x11000000, .rawrdU16Le),
   (0x11080000, .rawrdU16Be), (0x12000000, .rawrdU24Le), (0x12080000, .rawrdU24Be),
   (0x13000000, .rawrdU32Le), (0x13080000, .rawrdU32Be), (0x14000000, .rawrdI8Le),
   (0x14080000, .rawrdI8Be), (0x15000000, .rawrdI16Le), (0x15080000, .rawrdI16Be),
   (0x16000000, .rawrdI24Le), (0x16080000, .rawrdI24Be), (0x17000000, .rawrdI32Le),
   (0x17080000, .rawrdI32Be), (0x18000000, .rawrdF32Le), (0x18080000, .rawrdF32Be),
   (0x19000000, .rawrdF64Le), (0x19080000, .rawrdF64Be)]

def wordsRawwr : List (Nat × Instr) :=
  [(0x20000000, .rawwrU8Le), (0x20080000, .rawwrU8Be), (0x21000000, .rawwrU16Le),
   (0x21080000, .rawwrU16Be), (0x22000000, .rawwrU24Le), (0x22080000, .rawwrU24Be),
   (0x23000000, .rawwrU32Le), (0x23080000, .rawwrU32Be), (0x24000000, .rawwrI8Le),
   (0x24080000, .rawwrI8Be), (0x25000000, .rawwrI16Le), (0x25080000, .rawwrI16Be),
   (0x26000000, .rawwrI24Le), (0x26080000, .rawwrI24Be), (0x27000000, .rawwrI32Le),
   (0x27080000, .rawwrI32Be), (0x28000000, .rawwrF32Le), (0x28080000, .rawwrF32Be),
   (0x29000000, .rawwrF64Le), (0x29080000, .rawwrF64Be)]

def wordsFixed : List (Nat × Instr) :=
  [(0x30000000, .acquire), (0x60000000, .commit), (0x70000000, .area), (0x80000000, .configure),
   (0x90000000, .invStart), (0xA0000000, .invEnd), (0xB0000000, .rdreg)]

def wordsGet : List (Nat × Instr) :=
  [(0x40000000, .getU8), (0x41000000, .getU16), (0x42000000, .getU24), (0x43000000, .getU32),
   (0x44000000, .getI8), (0x45000000, .getI16), (0x46000000, .getI24), (0x47000000, .getI32),
   (0x48000000, .getF32), (0x49000000, .getF64)]

def wordsSet : List (Nat × Instr) :=
  [(0x50000000, .setU8), (0x51000000, .setU16), (0x52000000, .setU24), (0x53000000, .setU32),
   (0x54000000, .setI8), (0x55000000, .setI16), (0x56000000, .setI24), (0x57000000, .setI32),
   (0x58000000, .setF32), (0x59000000, .setF64)]

theorem test_words_cvtu8 : decodesAll wordsCvtU8 = true := by decide
theorem test_words_cvtu16 : decodesAll wordsCvtU16 = true := by decide
theorem test_words_cvtu24 : decodesAll wordsCvtU24 = true := by decide
theorem test_words_cvtu32 : decodesAll wordsCvtU32 = true := by decide
theorem test_words_cvti8 : decodesAll wordsCvtI8 = true := by decide
theorem test_words_cvti16 : decodesAll wordsCvtI16 = true := by decide
theorem test_words_cvti24 : decodesAll wordsCvtI24 = true := by decide
theorem test_words_cvti32 : decodesAll wordsCvtI32 = true := by decide
theorem test_words_cvtf32 : decodesAll wordsCvtF32 = true := by decide
theorem test_words_cvtf64 : decodesAll wordsCvtF64 = true := by decide
theorem test_words_rawrd : decodesAll wordsRawrd = true := by decide
theorem test_words_rawwr : decodesAll wordsRawwr = true := by decide
theorem test_words_fixed : decodesAll wordsFixed = true := by decide
theorem test_words_get : decodesAll wordsGet = true := by decide
theorem test_words_set : decodesAll wordsSet = true := by decide

theorem test_words_are_all :
    (wordsCvtU8 ++ wordsCvtU16 ++ wordsCvtU24 ++ wordsCvtU32 ++ wordsCvtI8 ++ wordsCvtI16 ++ wordsCvtI24 ++ wordsCvtI32
      ++ wordsCvtF32 ++ wordsCvtF64 ++ wordsRawrd ++ wordsRawwr ++ wordsFixed ++ wordsGet ++ wordsSet).length = 167 := by
  decide +kernel

/-- A number of more than 32 bits is no command word. -/
theorem test_word_too_long : decodeTableWord 40 0x1B0000000 = none := by decide

/-! ## Conversion vectors (95_test_vectors.md 1.2 and 2.1) -/

/-- A state with one transaction's word and buses accepted on P0. -/
def given (a0 : Nat) (raw : List Nat := []) : State :=
  { State.reset with txn := { Transaction.zero with arg0 := BitVec.ofNat 64 a0, rawin := rawBus (raw.map (BitVec.ofNat 8)) } }

/-- The response of a command, if it answered one. -/
def replyOf (o : Host.Outcome State Fault Refusal) : Option Response :=
  match o with
  | .next t => t.reply
  | _ => none

/-- Each command answers OK with the result, given the operand. -/
def answersAll (l : List (Instr × Nat × Nat)) : Bool :=
  l.all fun v => decide (replyOf (exec v.1 (given v.2.1)) = some ⟨.p0, .ok, BitVec.ofNat 64 v.2.2, 0, zeroBytes, 0⟩)

def vectorsIntToInt : List (Instr × Nat × Nat) :=
  [(.cvtU8I8, 0x0, 0xFFFFFFFFFFFFFF80), (.cvtU8I8, 0x80, 0x0), (.cvtI8U8, 0xFFFFFFFFFFFFFFFF, 0x7F),
   (.cvtI8U8, 0xFFFFFFFFFFFFFF80, 0x0), (.cvtU16I16, 0x8000, 0x0), (.cvtU24I24, 0x0, 0xFFFFFFFFFF800000),
   (.cvtU24I24, 0x5, 0xFFFFFFFFFF800005), (.cvtI24U24, 0xFFFFFFFFFF800005, 0x5),
   (.cvtU32I32, 0x0, 0xFFFFFFFF80000000), (.cvtI32U32, 0xFFFFFFFFFFFFFFFF, 0x7FFFFFFF),
   (.cvtU8U16, 0xAB, 0xAB00), (.cvtU8U24, 0xAB, 0xAB0000), (.cvtU8U32, 0xAB, 0xAB000000),
   (.cvtI8I16, 0xFFFFFFFFFFFFFFFF, 0xFFFFFFFFFFFFFF00), (.cvtI8I32, 0xFFFFFFFFFFFFFF80, 0xFFFFFFFF80000000),
   (.cvtI16I32, 0x1234, 0x12340000), (.cvtI24I32, 0xFFFFFFFFFFFFFFFF, 0xFFFFFFFFFFFFFF00),
   (.cvtI16I24, 0xFFFFFFFFFFFFFFFE, 0xFFFFFFFFFFFFFE00), (.cvtU8U16, 0xFF, 0xFF00), (.cvtU16U8, 0xABCD, 0xAB),
   (.cvtI16I8, 0xFFFFFFFFFFFFFFFF, 0xFFFFFFFFFFFFFFFF), (.cvtI16I8, 0xFFFFFFFFFFFFFF00, 0xFFFFFFFFFFFFFFFF),
   (.cvtI32I24, 0x12345678, 0x123456), (.cvtU32U24, 0xFFFFFFFF, 0xFFFFFF),
   (.cvtI32I8, 0xFFFFFFFF80000000, 0xFFFFFFFFFFFFFF80), (.cvtI32I16, 0x7FFFFFFF, 0x7FFF),
   (.cvtU8I16, 0x0, 0xFFFFFFFFFFFF8000), (.cvtU8I16, 0xFF, 0x7F00),
   (.cvtI8U32, 0xFFFFFFFFFFFFFFFF, 0x7F000000), (.cvtI16U8, 0x0, 0x80), (.cvtU16I8, 0xFFFF, 0x7F),
   (.cvtI32U8, 0xFFFFFFFF80000000, 0x0), (.cvtU24I8, 0x800000, 0x0), (.cvtU16U16, 0x1FFFF, 0xFFFF),
   (.cvtI24I24, 0xFFFFFFFF00800000, 0xFFFFFFFFFF800000)]

def vectorsIntToFloat : List (Instr × Nat × Nat) :=
  [(.cvtI8F32, 0xFFFFFFFFFFFFFF80, 0xBF800000), (.cvtU8F32, 0x0, 0xBF800000), (.cvtU8F32, 0x80, 0x0),
   (.cvtI16F32, 0xFFFFFFFFFFFF8000, 0xBF800000), (.cvtI24F32, 0xFFFFFFFFFF800000, 0xBF800000),
   (.cvtI32F32, 0xFFFFFFFF80000000, 0xBF800000), (.cvtU32F32, 0x0, 0xBF800000), (.cvtU24F32, 0x800000, 0x0),
   (.cvtU32F32, 0x80000000, 0x0), (.cvtI8F32, 0x7F, 0x3F7E0000), (.cvtI16F32, 0x4000, 0x3F000000),
   (.cvtI24F32, 0x7FFFFF, 0x3F7FFFFE), (.cvtI24F64, 0x7FFFFF, 0x3FEFFFFFC0000000),
   (.cvtI32F32, 0x7FFFFFFF, 0x3F800000), (.cvtI32F64, 0x7FFFFFFF, 0x3FEFFFFFFFC00000),
   (.cvtI8F64, 0xFFFFFFFFFFFFFF80, 0xBFF0000000000000)]

def vectorsFloatToInt : List (Instr × Nat × Nat) :=
  [(.cvtF32I8, 0x0, 0x0), (.cvtF32I8, 0xBF800000, 0xFFFFFFFFFFFFFF80), (.cvtF64I8, 0x3FD3333333333333, 0x26),
   (.cvtF64I8, 0xBFD3333333333333, 0xFFFFFFFFFFFFFFDA), (.cvtF32U8, 0x0, 0x80), (.cvtF32U8, 0xBF800000, 0x0),
   (.cvtF64U8, 0x3FD3333333333333, 0xA6), (.cvtF64U8, 0xBFD3333333333333, 0x59),
   (.cvtF64I16, 0x3FE0000000000000, 0x4000), (.cvtF64I16, 0x3FD3333333333333, 0x2666),
   (.cvtF32U16, 0x0, 0x8000), (.cvtF32U16, 0x3F000000, 0xC000), (.cvtF32I24, 0x3F000000, 0x400000),
   (.cvtF32U24, 0x0, 0x800000), (.cvtF64I32, 0x3FE0000000000000, 0x40000000),
   (.cvtF64I32, 0x3FD3333333333333, 0x26666666), (.cvtF32I32, 0x3E99999A, 0x26666680),
   (.cvtF64U32, 0x0, 0x80000000), (.cvtF64U32, 0x3FF0000000000000, 0xFFFFFFFF),
   (.cvtF32U32, 0x3E99999A, 0xA6666680), (.cvtF32I16, 0xFFFFFFFF3F800000, 0x7FFF)]

def vectorsFloatToFloat : List (Instr × Nat × Nat) :=
  [(.cvtF64F32, 0x3FB999999999999A, 0x3DCCCCCD), (.cvtF64F32, 0x483D6329F1C35CA5, 0x7F7FFFFF),
   (.cvtF32F64, 0x3DCCCCCD, 0x3FB99999A0000000), (.cvtF32F64, 0x3F800000, 0x3FF0000000000000),
   (.cvtF32F32, 0x7FC00001, 0x7FC00001), (.cvtF64F64, 0xFFF0000000000001, 0xFFF0000000000001)]

theorem test_vectors_int_to_int : answersAll vectorsIntToInt = true := by decide +kernel
theorem test_vectors_int_to_float : answersAll vectorsIntToFloat = true := by decide
theorem test_vectors_float_to_int : answersAll vectorsFloatToInt = true := by decide +kernel
theorem test_vectors_float_to_float : answersAll vectorsFloatToFloat = true := by decide

/-! ## Raw windows (95_test_vectors.md 2.2) -/

def vectorsRawrd : List (Instr × List Nat × Nat) :=
  [(.rawrdU8Le, [0xAB], 0xAB), (.rawrdU8Be, [0xAB], 0xAB), (.rawrdI8Le, [0xFF], 0xFFFFFFFFFFFFFFFF),
   (.rawrdI8Be, [0xFF], 0xFFFFFFFFFFFFFFFF), (.rawrdU16Le, [0x34, 0x12], 0x1234),
   (.rawrdU16Be, [0x12, 0x34], 0x1234), (.rawrdI16Le, [0xFE, 0xFF], 0xFFFFFFFFFFFFFFFE),
   (.rawrdI16Be, [0xFF, 0xFE], 0xFFFFFFFFFFFFFFFE), (.rawrdU24Le, [0x56, 0x34, 0x12], 0x123456),
   (.rawrdU24Be, [0x12, 0x34, 0x56], 0x123456), (.rawrdI24Le, [0xFE, 0xFF, 0xFF], 0xFFFFFFFFFFFFFFFE),
   (.rawrdI24Be, [0xFF, 0xFF, 0xFE], 0xFFFFFFFFFFFFFFFE),
   (.rawrdI24Le, [0x00, 0x00, 0x80], 0xFFFFFFFFFF800000),
   (.rawrdI24Be, [0x80, 0x00, 0x00], 0xFFFFFFFFFF800000), (.rawrdU32Le, [0xEF, 0xBE, 0xAD, 0xDE], 0xDEADBEEF),
   (.rawrdU32Be, [0xDE, 0xAD, 0xBE, 0xEF], 0xDEADBEEF), (.rawrdI32Le, [0x04, 0x03, 0x02, 0x01], 0x1020304),
   (.rawrdI32Be, [0x01, 0x02, 0x03, 0x04], 0x1020304), (.rawrdF32Le, [0x00, 0x00, 0x80, 0x3F], 0x3F800000),
   (.rawrdF32Be, [0x3F, 0x80, 0x00, 0x00], 0x3F800000), (.rawrdF32Le, [0x00, 0x00, 0x00, 0xBF], 0xBF000000),
   (.rawrdF32Be, [0xBF, 0x00, 0x00, 0x00], 0xBF000000),
   (.rawrdF64Le, [0x00, 0x00, 0x00, 0x00, 0x00, 0x00, 0xF0, 0xBF], 0xBFF0000000000000),
   (.rawrdF64Be, [0xBF, 0xF0, 0x00, 0x00, 0x00, 0x00, 0x00, 0x00], 0xBFF0000000000000),
   (.rawrdF64Le, [0x9A, 0x99, 0x99, 0x99, 0x99, 0x99, 0xB9, 0x3F], 0x3FB999999999999A),
   (.rawrdF64Be, [0x3F, 0xB9, 0x99, 0x99, 0x99, 0x99, 0x99, 0x9A], 0x3FB999999999999A)]

def vectorsRawwr : List (Instr × Nat × List Nat) :=
  [(.rawwrU8Le, 0xAB, [0xAB]), (.rawwrU8Be, 0xAB, [0xAB]), (.rawwrI8Le, 0xFFFFFFFFFFFFFFFF, [0xFF]),
   (.rawwrI8Be, 0xFFFFFFFFFFFFFFFF, [0xFF]), (.rawwrU16Le, 0x1234, [0x34, 0x12]),
   (.rawwrU16Be, 0x1234, [0x12, 0x34]), (.rawwrI16Le, 0xFFFFFFFFFFFFFFFE, [0xFE, 0xFF]),
   (.rawwrI16Be, 0xFFFFFFFFFFFFFFFE, [0xFF, 0xFE]), (.rawwrU24Le, 0x123456, [0x56, 0x34, 0x12]),
   (.rawwrU24Be, 0x123456, [0x12, 0x34, 0x56]), (.rawwrI24Le, 0xFFFFFFFFFFFFFFFE, [0xFE, 0xFF, 0xFF]),
   (.rawwrI24Be, 0xFFFFFFFFFFFFFFFE, [0xFF, 0xFF, 0xFE]),
   (.rawwrI24Le, 0xFFFFFFFFFF800000, [0x00, 0x00, 0x80]),
   (.rawwrI24Be, 0xFFFFFFFFFF800000, [0x80, 0x00, 0x00]), (.rawwrU32Le, 0xDEADBEEF, [0xEF, 0xBE, 0xAD, 0xDE]),
   (.rawwrU32Be, 0xDEADBEEF, [0xDE, 0xAD, 0xBE, 0xEF]), (.rawwrI32Le, 0x1020304, [0x04, 0x03, 0x02, 0x01]),
   (.rawwrI32Be, 0x1020304, [0x01, 0x02, 0x03, 0x04]), (.rawwrF32Le, 0x3F800000, [0x00, 0x00, 0x80, 0x3F]),
   (.rawwrF32Be, 0x3F800000, [0x3F, 0x80, 0x00, 0x00]), (.rawwrF32Le, 0xBF000000, [0x00, 0x00, 0x00, 0xBF]),
   (.rawwrF32Be, 0xBF000000, [0xBF, 0x00, 0x00, 0x00]),
   (.rawwrF64Le, 0xBFF0000000000000, [0x00, 0x00, 0x00, 0x00, 0x00, 0x00, 0xF0, 0xBF]),
   (.rawwrF64Be, 0xBFF0000000000000, [0xBF, 0xF0, 0x00, 0x00, 0x00, 0x00, 0x00, 0x00]),
   (.rawwrF64Le, 0x3FB999999999999A, [0x9A, 0x99, 0x99, 0x99, 0x99, 0x99, 0xB9, 0x3F]),
   (.rawwrF64Be, 0x3FB999999999999A, [0x3F, 0xB9, 0x99, 0x99, 0x99, 0x99, 0x99, 0x9A])]

theorem test_vectors_rawrd : (vectorsRawrd.all fun v => decide (replyOf (exec v.1 (given 0 v.2.1)) =
    some ⟨.p0, .ok, BitVec.ofNat 64 v.2.2, 0, zeroBytes, 0⟩)) = true := by decide

theorem test_vectors_rawwr : (vectorsRawwr.all fun v => decide (replyOf (exec v.1 (given v.2.1)) =
    some ⟨.p0, .ok, 0, 0, rawBus (v.2.2.map (BitVec.ofNat 8)), v.2.2.length⟩)) = true := by decide

/-! ## States for the tests of the cursor -/

/-- A state with the argument buses of the accepted transaction set. -/
def args (a0 a1 a2 : Nat) (s : State) : State :=
  { s with
    txn := { s.txn with
      arg0 := BitVec.ofNat 64 a0
      arg1 := BitVec.ofNat 64 a1
      arg2 := BitVec.ofNat 64 a2 } }

/-- The accepted transaction is on P1. -/
def onP1 (s : State) : State :=
  { s with port := .p1 }

/-- Configured with two channels. -/
def configured (f : Format) : State :=
  { State.reset with cfgFormat := f, channels := 2, cfgLocked := true }

/-- In an invocation with the window [4, 64], idle. -/
def active (f : Format) : State :=
  { configured f with invActive := true, fcMin := 4, fcMax := 64 }

/-- A section of two frames held, two channels interleaved in 4-byte slots from 0x100 on, all of it admitted. -/
def held (f : Format) : State :=
  { active f with
    curState := .acquired
    granted := 2
    areas := [⟨0x100, 8⟩, ⟨0x104, 8⟩]
    admitted := [⟨0x100, 16⟩]
    mem := [(0x100, 0x80), (0x101, 0x12), (0x102, 0x34), (0x103, 0x56), (0x10C, 0x7F)] }

/-- A state with the transport's answers on the accepted transaction. -/
def grants (g : Grant) (s : State) : State :=
  { s with txn := { s.txn with grant := g } }

/-- A state with the transport's answer to a commit. -/
def commits (c : Answer) (s : State) : State :=
  { s with txn := { s.txn with commit := c } }

/-- The faulted block: ILLEGAL_OPCODE by a word on P0. -/
def broke : State :=
  { State.reset with fault := true, faultCause := 0x01, faultWord := 0xC0000000 }

/-- A transaction with a word and argument buses. -/
def tx (w a0 a1 a2 : Nat) : Transaction :=
  { Transaction.zero with
    cmd := BitVec.ofNat 32 w
    arg0 := BitVec.ofNat 64 a0
    arg1 := BitVec.ofNat 64 a1
    arg2 := BitVec.ofNat 64 a2 }

/-- A property of the next state; false where there is none. -/
def nextHas (o : Host.Outcome State Fault Refusal) (p : State → Bool) : Bool :=
  match o with
  | .next t => p t
  | _ => false

/-- The result bus of the response. -/
def res0Is (v : Nat) (t : State) : Bool :=
  match t.reply with
  | some r => decide (r.status = .ok) && decide (r.res0 = BitVec.ofNat 64 v)
  | none => false

/-- The status of the response. -/
def statusIs (st : Status) (t : State) : Bool :=
  match t.reply with
  | some r => decide (r.status = st)
  | none => false

/-! ## One step of each cursor and lifecycle command (95_test_vectors.md 2.3 to 2.5) -/

/-- The byte 0x80 of a u8 wire in each representation (40_conversion.md R91). -/
def vectorsGet : List (Instr × Nat) :=
  [(.getU8, 0x80), (.getU16, 0x8000), (.getU24, 0x800000), (.getU32, 0x80000000), (.getI8, 0), (.getI16, 0),
   (.getI24, 0), (.getI32, 0), (.getF32, 0), (.getF64, 0)]

theorem test_get_u8_wire : (vectorsGet.all fun v =>
    nextHas (exec v.1 (args 0 0 0 (held .u8))) (res0Is v.2)) = true := by decide

/-- −1.0 or the least integer in each representation, written on a u8 wire as 0 at channel 1, frame 1. -/
def vectorsSet : List (Instr × Nat) :=
  [(.setU8, 0), (.setU16, 0xFF), (.setU24, 0xFFFF), (.setU32, 0xFFFFFF), (.setI8, 0x80), (.setI16, 0x80FF),
   (.setI24, 0x80FFFF), (.setI32, 0x80000000), (.setF32, 0xBF800000), (.setF64, 0xBFF0000000000000)]

theorem test_set_u8_wire : (vectorsSet.all fun v =>
    nextHas (exec v.1 (args 1 1 v.2 (held .u8))) fun t =>
      statusIs .ok t && decide (Memory.read t.mem 0x10C = some 0x00) && decide (Memory.read t.mem 0x100 = some 0x80)) =
    true := by decide +kernel

/-- A big-endian 24-bit sample lies in the last three bytes of its slot (R27, R57). -/
theorem test_get_i24be : nextHas (exec .getI24 (args 0 0 0 (held .i24be))) (res0Is 0x123456) = true := by
  decide

theorem test_set_i24be : nextHas (exec .setI24 (args 1 0 0xFFFFFE (held .i24be))) (fun t => decide
    (Memory.read t.mem 0x104 = none ∧ Memory.read t.mem 0x105 = some 0xFF ∧ Memory.read t.mem 0x106 = some 0xFF ∧
      Memory.read t.mem 0x107 = some 0xFE ∧ Memory.read t.mem 0x108 = none)) = true := by decide

theorem test_acquire_grants : nextHas
    (exec .acquire (args 64 0 0 (grants ⟨.ok, 16, [⟨0x1000, 2⟩, ⟨0x1001, 2⟩], [⟨0x1000, 32⟩], []⟩ (active .u8))))
    (fun t => res0Is 16 t && decide (t.curState = .acquired) && decide (t.granted = 16)
      && decide (t.areas = [⟨0x1000, 2⟩, ⟨0x1001, 2⟩])) = true := by decide

/-- 2^32 + 4 is out of range of any window: the request is not truncated (R81). -/
theorem test_acquire_full_width :
    nextHas (exec .acquire (args 0x100000004 0 0 (active .u8))) (fun t =>
      statusIs .faulted t && decide (t.faultCause = 0x0D)) = true := by decide

theorem test_commit_counts : nextHas (exec .commit (held .u8)) (fun t =>
    statusIs .ok t && decide (t.curState = .idle) && decide (t.committedTotal = 2) && decide (t.areas = [])) =
    true := by decide

theorem test_commit_fatal : nextHas (exec .commit (commits .fatal (held .u8))) (fun t =>
    statusIs .fatal t && t.broken && decide (t.curState = .idle) && decide (t.committedTotal = 0)) = true := by
  decide

theorem test_area : replyOf (exec .area (args 1 0 0 (held .u8))) = some ⟨.p0, .ok, 0x104, 8, zeroBytes, 0⟩ := by
  decide

theorem test_area_without_frames : nextHas
    (exec .area (args 9 0 0 { active .u8 with curState := .acquired })) (fun t => decide (t.faultCause = 0x12)) =
    true := by decide

theorem test_configure : nextHas (exec .configure (args 0x15 2 0 (onP1 State.reset))) (fun t =>
    statusIs .ok t && decide (t.cfgFormat = .i16be) && decide (t.channels = 2) && t.cfgLocked) = true := by
  decide

theorem test_configure_be_code_of_u8 : nextHas (exec .configure (args 0x10 2 0 (onP1 State.reset))) (fun t =>
    statusIs .faulted t && decide (t.faultCause = 0x06) && !t.cfgLocked) = true := by decide

theorem test_inv_start : nextHas (exec .invStart (args 0 64 0 (onP1 (configured .u8)))) (fun t =>
    statusIs .ok t && t.invActive && decide (t.fcMin = 0) && decide (t.fcMax = 64)) = true := by decide

theorem test_inv_start_broken : nextHas
    (exec .invStart (args 0 64 0 (onP1 { configured .u8 with broken := true }))) (fun t =>
      decide (t.faultCause = 0x0B)) = true := by decide

theorem test_inv_end_implicit_commit : nextHas (exec .invEnd (commits .recoverable (onP1 (held .u8)))) (fun t =>
    statusIs .ok t && decide (t.discardLast = 1) && decide (t.discardCount = 1) && t.shortfall && !t.invActive
      && decide (t.curState = .idle)) = true := by decide

theorem test_inv_end_outside : nextHas (exec .invEnd (onP1 (configured .u8))) (fun t =>
    statusIs .faulted t && decide (t.faultCause = 0x0C)) = true := by decide

/-- After `configure 0x15, 2`, register 0 reads 0x115 (R168). -/
theorem test_rdreg : nextHas (exec .rdreg (args 0 0 0 (configured .i16be))) (res0Is 0x115) = true := by
  decide

theorem test_rdreg_while_faulted : nextHas (exec .rdreg (args 8 0 0 broke)) (res0Is 0xC0000000) = true := by
  decide

/-- A word presented by the host's interface is the first thing the machine runs, on the port of its command. -/
theorem test_step_runs_the_word : nextHas (step (State.reset.withFetchWord 32 0x80000000)) (fun t =>
    statusIs .faulted t && decide (t.faultCause = 0x07) && decide (t.faultPort = .p1)) = true := by decide

/-! ## Witnesses: the hypotheses of each statement can be met -/

theorem witness_DecodeChecksInTheOrderOfTheRule :
    (12 ≤ (0xC0000001#32).toNat / 2 ^ 28 ∧ decode 0xC0000001 = .illegal .illegalOpcode) ∧
    ((0xBFF80000#32).toNat / 2 ^ 28 < 12 ∧ decode 0xBFF80000 = .illegal .reservedBits) ∧
    (9 < (0x0A000000#32).toNat / 2 ^ 24 % 16 ∧ decode 0x0A000000 = .illegal .illegalRep) ∧
    (¬9 < (0x09900000#32).toNat / 2 ^ 20 % 16 ∧ decode 0x09900000 = .command .cvtF64F64) := by
  decide

/-- A presented transaction whose command completes, and one whose command is stuck with no reset to come. -/
theorem witness_StepRunsTheDecodedCommand :
    ({ State.reset with inbox := [.transaction .p1 (tx 0xB0000000 7 0 0)] }.inbox =
      .transaction .p1 (tx 0xB0000000 7 0 0) :: [] ∧ decode (tx 0xB0000000 7 0 0).cmd = .command .rdreg ∧
      ∃ u, exec .rdreg (accept .p1 (tx 0xB0000000 7 0 0) [] State.reset) = .next u) ∧
    (decode (tx 0x40000000 1 0 0).cmd = .command .getU8 ∧ Event.reset ∉ ([] : List Event) ∧
      exec .getU8 (accept .p0 (tx 0x40000000 1 0 0) [] { held .u8 with admitted := [] }) = .fault .stuckAccess) :=
  ⟨⟨rfl, by decide, _, rfl⟩, by decide, by decide, by rfl⟩

/-- A stuck SET with a reset still to come, one event after it, and a transaction that is answered. -/
theorem witness_ResetAbandonsAStuckCommand :
    (Event.reset ∉ [Event.transport [] []] ∧ decode (tx 0x50000000 1 1 0).cmd = .command .setU8 ∧
      exec .setU8 (accept .p0 (tx 0x50000000 1 1 0) ([.transport [] []] ++ .reset :: [])
        { held .u8 with admitted := [] }) = .fault .stuckAccess) ∧
    (∀ t, ∃ u, Host.Core.run Sys2Proof.core 0 t = .next u) ∧
    ∃ t, step { State.reset with inbox := [.transaction .p0 (tx 0xB0000000 0 0 0)] } = .next t :=
  ⟨⟨by decide, by decide, by rfl⟩, fun t => ⟨t, rfl⟩, _, rfl⟩

/-- The step that abandons it counts it, so that the run has not ended well. -/
theorem test_abandoned_is_no_good_end : nextHas
    (step { held .u8 with admitted := [], inbox := [.transaction .p0 (tx 0x50000000 1 1 0), .reset] }) (fun t =>
      decide (t.abandoned = 1) && decide (t.inbox = []) && decide (t.reply = none) && decide (t.curState = .idle)) =
    true := by decide

theorem witness_MalformedWordsFaultInOrder :
    (broke.fault = true ∧ decode (tx 0xC0000000 0 0 0).cmd = .illegal .illegalOpcode) ∧
    (State.reset.fault = false ∧ decode (tx 0xFFFFFFFF 0 0 0).cmd = .illegal .illegalOpcode) ∧
    (decode (tx 0x30000001 0 0 0).cmd = .illegal .reservedBits ∧ 3 ≤ (tx 0x30000001 0 0 0).cmd.toNat / 2 ^ 28 ∧
      (tx 0x70000001 0 0 0).cmd.toNat / 2 ^ 28 ≤ 7) ∧
    (decode (tx 0x80000001 0 0 0).cmd = .illegal .reservedBits ∧ 8 ≤ (tx 0x80000001 0 0 0).cmd.toNat / 2 ^ 28 ∧
      (tx 0xA0000001 0 0 0).cmd.toNat / 2 ^ 28 ≤ 10) ∧
    (decode (tx 0x2A000000 0 0 0).cmd = .illegal .illegalRep ∧
      ¬3 ≤ (tx 0x2A000000 0 0 0).cmd.toNat / 2 ^ 28) ∧
    (decode (tx 0xB0000001 0 0 0).cmd = .illegal .reservedBits ∧
      ¬(tx 0xB0000001 0 0 0).cmd.toNat / 2 ^ 28 ≤ 10) := by
  decide

theorem witness_SimultaneousTransactionsAreSerialized :
    { State.reset with inbox := [.both (tx 0x30000000 0 0 0) (tx 0x80000000 0 1 0)] }.inbox =
      .both (tx 0x30000000 0 0 0) (tx 0x80000000 0 1 0) :: [] := rfl

theorem witness_FaultedBlockRefusesEveryCommandButRdreg : Instr.acquire ≠ .rdreg ∧ broke.fault = true := by
  decide

theorem witness_AFaultedBlockStaysAsItIs :
    broke.fault = true ∧
    (∃ t, step { broke with inbox := [.transaction .p0 (tx 0x30000000 0 0 0)] } = .next t) ∧
    ∃ t, step { broke with inbox := [.both (tx 0x30000000 0 0 0) (tx 0x80000000 0 1 0)] } = .next t := by
  refine ⟨rfl, ⟨_, rfl⟩, ?_⟩
  unfold step acceptBoth
  dsimp only
  split
  · exact ⟨_, rfl⟩
  · exact ⟨_, rfl⟩

theorem witness_CommandsOnTheWrongPortFault :
    State.reset.fault = false ∧ (onP1 State.reset).port = .p1 ∧ State.reset.port = .p0 := by
  decide

/-- A held section, with a transaction presented. -/
def running : State :=
  { held .u8 with inbox := [.transaction .p0 (tx 0x60000000 0 0 0)] }

theorem running_inv : StateInv running := by
  constructor <;> decide

theorem witness_EveryStepKeepsTheInvariant : StateInv running ∧ ∃ t, step running = .next t :=
  ⟨running_inv, _, rfl⟩

theorem witness_EveryStepKeepsMemoryCanonical : Memory.wf running.mem ∧ ∃ t, step running = .next t :=
  ⟨running_inv.mem_wf, _, rfl⟩

theorem held_admitted (f : Format) (es : List Event) (h : f.slotWidth ≤ 4) :
    SectionAdmitted { held f with inbox := es } := by
  have all : ∀ a ∈ (held .u8).areas, ∀ n < 2, ∀ k < 4, (held .u8).accessible (a.slotAddress n + (k : Nat)) = true := by
    decide
  rintro - x ⟨a, ha, n, hn, k, hk, rfl⟩
  exact all a ha n hn k (lt_of_lt_of_le hk h)

/-- The transport acts while a section is held, on bytes next to the footprint and inside the gap of a u8 slot, and
keeps the section admitted; and a grant that admits its whole footprint. -/
theorem witness_ADutifulTransportLeavesTheSectionAlone :
    (StateInv { held .u8 with inbox := [.transport [⟨0x100, 13⟩] [(0xFF, 1), (0x101, 2), (0x110, 3)]] } ∧
      TransportDutiful { held .u8 with inbox := [.transport [⟨0x100, 13⟩] [(0xFF, 1), (0x101, 2), (0x110, 3)]] } ∧
      (∃ t, step { held .u8 with inbox := [.transport [⟨0x100, 13⟩] [(0xFF, 1), (0x101, 2), (0x110, 3)]] } = .next t) ∧
      FootprintByte (held .u8).areas (held .u8).granted.toNat (held .u8).cfgFormat.slotWidth ((0x10C : Nat) : Int)) ∧
    TransportDutiful { active .u8 with inbox := [.transaction .p0 { tx 0x30000000 4 0 0 with
      grant := ⟨.ok, 1, [⟨0x200, 1⟩, ⟨0x201, 1⟩], [⟨0x200, 2⟩], []⟩ }] } := by
  refine ⟨⟨by constructor <;> decide, ⟨held_admitted .u8 _ (by decide), ?_⟩, ⟨_, rfl⟩, ?_⟩, ⟨?_, ?_⟩⟩
  · have all : ∀ a ∈ (held .u8).areas, ∀ n < 2, ∀ k < 1,
        (∀ c ∈ ([(0xFF, 1), (0x101, 2), (0x110, 3)] : List Host.Cell), (c.1 : Int) ≠ a.slotAddress n + (k : Nat)) ∧
        { held .u8 with admitted := [⟨0x100, 13⟩] }.accessible (a.slotAddress n + (k : Nat)) = true := by
      decide
    rintro - x ⟨a, ha, n, hn, k, hk, rfl⟩
    exact all a ha n hn k hk
  · exact ⟨⟨0x104, 8⟩, by decide, 1, by decide, 0, by decide, by decide⟩
  · intro h; cases h
  · have all : ∀ a ∈ grantedAreas (active .u8) ⟨.ok, 1, [⟨0x200, 1⟩, ⟨0x201, 1⟩], [⟨0x200, 2⟩], []⟩, ∀ n < 1, ∀ k < 1,
        { active .u8 with admitted := [⟨0x200, 2⟩] }.accessible (a.slotAddress n + (k : Nat)) = true := by
      decide
    rintro - - x ⟨a, ha, n, hn, k, hk, rfl⟩
    exact all a ha n hn k hk

theorem witness_TheConfigurationIsImmutableOnceLocked :
    ((held .u8).cfgLocked = true ∧ ∃ t, exec .commit (held .u8) = .next t) ∧
    LifecycleReady (onP1 (configured .u8)) ∧ (onP1 (configured .u8)).cfgLocked = true :=
  ⟨⟨rfl, _, rfl⟩, ⟨rfl, rfl⟩, rfl⟩

theorem witness_BrokenIsStickyAndTheWindowConstant :
    ({ active .u8 with broken := true }.broken = true ∧
      ∃ t, exec .acquire { active .u8 with broken := true } = .next t) ∧
    ((active .u8).invActive = true ∧ ∃ t, exec .invStart (active .u8) = .next t) ∧
    (Instr.rdreg ≠ .invStart ∧ ∃ t, exec .rdreg State.reset = .next t) :=
  ⟨⟨rfl, _, rfl⟩, ⟨rfl, _, rfl⟩, by decide, _, rfl⟩

theorem witness_OnlySetAndAcquireChangeMemory :
    Instr.commit ≠ .acquire ∧ (∀ r, Instr.commit.command ≠ .set r) ∧ ∃ t, exec .commit (held .u8) = .next t :=
  ⟨by decide, by simp [Instr.command], _, rfl⟩

/-- For CVT, RAWRD and RAWWR: the state after reset is not faulted. -/
theorem witness_CvtAnswersTheConversion : State.reset.fault = false ∧ (onP1 State.reset).fault = false := by decide
theorem witness_RawrdAnswersTheDecodedWindow : State.reset.fault = false := rfl
theorem witness_RawwrAnswersTheEncodedWindow : State.reset.fault = false := rfl

theorem witness_SignFlipIsTheHalfRangeOffset :
    (Rep.u24.isFloat = false ∧ Rep.i24.isFloat = false ∧ Rep.u24.width = Rep.i24.width ∧
      Rep.u24.isSigned ≠ Rep.i24.isSigned ∧ Rep.u24.isSigned = false) ∧ Rep.i24.isSigned = true := by
  decide

theorem witness_WideningMultipliesByThePowerOfTwo :
    Rep.i8.isFloat = false ∧ Rep.i32.isFloat = false ∧ Rep.i8.isSigned = Rep.i32.isSigned ∧
      Rep.i8.width < Rep.i32.width := by
  decide

theorem witness_NarrowingIsTheFloorOfTheQuotient :
    Rep.i16.isFloat = false ∧ Rep.i8.isFloat = false ∧ Rep.i16.isSigned = Rep.i8.isSigned ∧
      Rep.i8.width < Rep.i16.width := by
  decide

theorem witness_CrossConversionComposesFlipAndWidth :
    (Rep.u8.isFloat = false ∧ Rep.i16.isFloat = false ∧ Rep.u8.isSigned ≠ Rep.i16.isSigned ∧
      Rep.u8.width ≠ Rep.i16.width ∧ Rep.u8.isSigned = false) ∧ Rep.i16.isSigned = true ∧
    (Rep.i8.isSigned = Rep.i16.isSigned ∧ Rep.i8.width = Rep.u8.width) ∧
    (Rep.u16.isSigned = Rep.u8.isSigned ∧ Rep.u16.width = Rep.i16.width) := by
  decide

theorem witness_IntegerConversionsRoundTrip :
    (Rep.u24.isFloat = false ∧ Rep.i32.isFloat = false ∧ Rep.u24.width ≤ Rep.i32.width) ∧
    Rep.u24.width ≤ Rep.i24.width ∧ (Rep.u16.width < Rep.u24.width ∧ Rep.u24.isSigned = Rep.u16.isSigned) := by
  decide

/-- An integer representation, of 24 and of 32 bits. -/
theorem witness_IntegerToFloat :
    (Rep.i24.isFloat = false ∧ Rep.i24.width ≤ 24) ∧ Rep.u32.isFloat = false ∧ Rep.u32.width = 32 := by
  decide

theorem witness_FloatToIntegerAtTheBoundaries : Rep.u8.isFloat = false := rfl

/-- 1.0 and −1.0, the boundary values of the two clauses. -/
theorem witness_FloatToIntegerSaturates :
    Rep.f32.isFloat = true ∧ Rep.i24.isFloat = false ∧
    HasValue (floatFormat .f32) (unbus .f32 0x3F800000) 1 ∧ HasValue (floatFormat .f32) (unbus .f32 0xBF800000) (-1) :=
  ⟨rfl, rfl, ⟨false, 2 ^ 23, -23, by decide, by norm_num [finValue, signed]⟩,
    ⟨true, 2 ^ 23, -23, by decide, by norm_num [finValue, signed]⟩⟩

/-- −1.0, the lower end, and −0.375 into i8, whose exact image is −48. -/
theorem witness_FloatToIntegerTruncatesTheExactMap :
    Rep.f32.isFloat = true ∧ Rep.i8.isFloat = false ∧
    (HasValue (floatFormat .f32) (unbus .f32 0xBF800000) (-1) ∧ (-1 : ℚ) * 2 ^ 52 = (-4503599627370496 : ℤ)) ∧
    (HasValue (floatFormat .f32) (unbus .f32 0xBEC00000) (-3 / 8) ∧ (-1 : ℚ) ≤ -3 / 8 ∧ (-3 / 8 : ℚ) < 1 ∧
      (-3 / 8 : ℚ) * 2 ^ 52 = (-1688849860263936 : ℤ) ∧
      (-48 : ℚ) = if Rep.i8.isSigned then (-3 / 8 : ℚ) * 2 ^ (Rep.i8.width - 1) else (-3 / 8 + 1) * 2 ^ (Rep.i8.width - 1)) := by
  refine ⟨rfl, rfl, ⟨⟨true, 2 ^ 23, -23, by decide, by norm_num [finValue, signed]⟩, by norm_num⟩,
    ⟨true, 3 * 2 ^ 22, -25, by decide, by norm_num [finValue, signed]⟩, by norm_num, by norm_num, by norm_num, ?_⟩
  norm_num [Rep.isSigned, Rep.width]

/-- 2^900 itself, the greatest magnitude the statement speaks of, and a value off the grid of 2^−52. -/
theorem witness_FloatToIntegerRoundsEachOperation :
    Rep.f64.isFloat = true ∧ Rep.u32.isFloat = false ∧
    (HasValue (floatFormat .f64) (unbus .f64 0x7830000000000000) (2 ^ 900) ∧ |(2 ^ 900 : ℚ)| ≤ 2 ^ 900) ∧
    (HasValue (floatFormat .f64) (unbus .f64 0x3FDFFFFFFFFFFFFF) ((2 ^ 53 - 1) / 2 ^ 54) ∧
      |((2 ^ 53 - 1) / 2 ^ 54 : ℚ)| ≤ 2 ^ 900) := by
  refine ⟨rfl, rfl, ⟨⟨false, 2 ^ 52, 848, by decide +kernel, ?_⟩, ?_⟩, ⟨false, 2 ^ 53 - 1, -54, by decide +kernel, ?_⟩, ?_⟩
  · show finValue false (2 ^ 52) 848 = (2 : ℚ) ^ 900
    rw [show (900 : ℕ) = 52 + 848 from rfl, pow_add]
    norm_num [finValue, signed]
  · rw [abs_of_nonneg (pow_nonneg (by norm_num) _)]
  · norm_num [finValue, signed]
  · exact le_trans (by norm_num [abs_of_nonneg] : _ ≤ (1 : ℚ)) (one_le_pow₀ (by norm_num))

theorem witness_IntegersSurviveTheRoundTripThroughFloat :
    (Rep.i24.isFloat = false ∧ Rep.i24.width ≤ 24) ∧ Rep.i32.isFloat = false ∧ Rep.i32.width = 32 := by
  decide

theorem witness_F32ToF64IsExact :
    binary32.num (unbus .f32 0x7F800000) = .inf false ∧ binary32.num (unbus .f32 0x80000001) = .fin true 1 (-149) ∧
    binary32.num (unbus .f32 0x7FC00001) = .nan := by
  decide

/-- The infinities; FLT_MAX and its negative, the boundary of the clamp; the next f64 value beyond each; and 2^−150, a
tie between +0 and the least subnormal; and −0 for the sign. -/
theorem witness_F64ToF32ClampsAndRoundsToNearest :
    binary64.num (unbus .f64 0x8000000000000000) ≠ .nan ∧
    binary64.num (unbus .f64 0x7FF0000000000000) = .inf false ∧
    binary64.num (unbus .f64 0xFFF0000000000000) = .inf true ∧
    HasValue binary64 (unbus .f64 0x47EFFFFFE0000000) ((2 ^ 24 - 1) * 2 ^ 104) ∧
    HasValue binary64 (unbus .f64 0xC7EFFFFFE0000000) (-((2 ^ 24 - 1) * 2 ^ 104)) ∧
    (∃ q, HasValue binary64 (unbus .f64 0x47EFFFFFE0000001) q ∧ (2 ^ 24 - 1) * 2 ^ 104 < q) ∧
    (∃ q, HasValue binary64 (unbus .f64 0xC7EFFFFFE0000001) q ∧ q < -((2 ^ 24 - 1) * 2 ^ 104)) ∧
    HasValue binary64 (unbus .f64 0x3690000000000000) (1 / 2 ^ 150) ∧ HasValue binary32 0 0 ∧
    HasValue binary32 1 (1 / 2 ^ 149) ∧ |(0 : ℚ) - 1 / 2 ^ 150| = |1 / 2 ^ 149 - 1 / 2 ^ 150| := by
  refine ⟨by decide, by decide, by decide, ?_, ?_, ?_, ?_, ?_, ?_, ?_, by norm_num⟩
  · exact ⟨false, (2 ^ 24 - 1) * 2 ^ 29, 75, by decide, by norm_num [finValue, signed]⟩
  · exact ⟨true, (2 ^ 24 - 1) * 2 ^ 29, 75, by decide, by norm_num [finValue, signed]⟩
  · exact ⟨_, ⟨false, (2 ^ 24 - 1) * 2 ^ 29 + 1, 75, by decide, rfl⟩, by norm_num [finValue, signed]⟩
  · exact ⟨_, ⟨true, (2 ^ 24 - 1) * 2 ^ 29 + 1, 75, by decide, rfl⟩, by norm_num [finValue, signed]⟩
  · exact ⟨false, 2 ^ 52, -202, by decide, by norm_num [finValue, signed]⟩
  · exact ⟨false, 0, -149, by decide, by norm_num [finValue, signed]⟩
  · exact ⟨false, 1, -149, by decide, by norm_num [finValue, signed]⟩

theorem witness_OnlyNanInputsMakeADraw :
    (Rep.f64.isFloat = true ∧ Rep.f64 ≠ .i8 ∧ (floatFormat .f64).num (unbus .f64 0x7FF0000000000001) = .nan) ∧
    ¬(Rep.f64.isFloat = true ∧ Rep.f64 ≠ .i8 ∧ (floatFormat .f64).num (unbus .f64 0x7FF0000000000000) = .nan) := by
  decide

/-- The greatest pattern of a signed and of an unsigned representation, and the first one whose sign bit is set. -/
theorem witness_ConversionsStayInTheDestinationsRange :
    (2 ^ 32 - 1 < 2 ^ Rep.u32.width ∧ Rep.u32.isSigned = false) ∧
    (2 ^ 24 - 1 < 2 ^ Rep.i24.width ∧ Rep.i24.isSigned = true ∧ 2 ^ (Rep.i24.width - 1) ≤ 2 ^ 23) := by
  decide

/-- A window as long as its representation, of the shortest and of the longest. -/
theorem witness_RawDecodeIsTheWeightedSum :
    ([0xFF] : List Byte).length = Rep.u8.rawWidth ∧ ([1, 2, 3, 4, 5, 6, 7, 8] : List Byte).length = Rep.f64.rawWidth := by
  decide

theorem witness_RawWindowsRoundTrip : ([1, 2, 3] : List Byte).length = Rep.i24.rawWidth := by decide

/-- An ACQUIRE whose checks pass: the request is the window's upper end. -/
def asking (g : Grant) : State :=
  args 64 0 0 (grants g (active .u8))

theorem asking_ready (g : Grant) : AcquireReady (asking g) :=
  ⟨rfl, rfl, rfl, show 4 ≤ 64 by decide, show 64 ≤ 64 by decide, rfl⟩

/-- At the window's lower end the checks pass too. -/
theorem asking_ready_min (g : Grant) : AcquireReady (args 4 0 0 (asking g)) :=
  ⟨rfl, rfl, rfl, show 4 ≤ 4 by decide, show 4 ≤ 64 by decide, rfl⟩

/-- A grant of two frames whose answer lists an area for the last channel in range at the greatest base. -/
def answered : Grant :=
  ⟨.ok, 2, [⟨0x100, 8⟩, ⟨2 ^ 64 - 1, -1⟩], [⟨0x100, 16⟩], [(0x100, 0x55)]⟩

theorem witness_AcquireTakesTheGrantedSection :
    (AcquireReady (asking ⟨.ok, 0, [], [], []⟩) ∧ (asking ⟨.ok, 0, [], [], []⟩).broken = false ∧
      (0 : Nat) = min (asking ⟨.ok, 0, [], [], []⟩).txn.grant.frames (asking ⟨.ok, 0, [], [], []⟩).txn.arg0.toNat) ∧
    (AcquireReady (asking answered) ∧ (asking answered).broken = false ∧
      (asking answered).txn.grant.status = .ok ∧
      (2 : Nat) = min (asking answered).txn.grant.frames (asking answered).txn.arg0.toNat ∧
      1 < (asking answered).channels.toNat ∧ answered.areas[1]? = some ⟨2 ^ 64 - 1, -1⟩ ∧
      2 ^ 64 - 1 < 2 ^ (asking answered).params.addrW) :=
  ⟨⟨asking_ready _, rfl, by decide⟩, asking_ready _, rfl, rfl, by decide, by decide, rfl, by decide⟩

/-- The byte at 0x101 is no footprint byte of this grant, and 0x108 is one that the answer does not list. -/
theorem witness_AcquirePointGivesTheFootprintToTheTransport :
    AcquireReady (asking answered) ∧ 0 < answered.frames ∧ 0 < (asking answered).txn.arg0.toNat ∧
    (∀ c ∈ answered.bytes, c.1 ≠ 0x108) ∧ (∀ c ∈ answered.bytes, c.1 ≠ 0x101) ∧
    ∃ t, exec .acquire (asking answered) = .next t ∧
      FootprintByte t.areas t.granted.toNat t.cfgFormat.slotWidth ((0x108 : Nat) : Int) ∧
      inFootprint t.areas t.granted.toNat t.cfgFormat.slotWidth 0x101 = false := by
  refine ⟨asking_ready _, by decide, by decide, by decide, by decide, _, rfl, ?_, by decide⟩
  exact ⟨⟨0x100, 8⟩, by decide, 1, by decide, 0, by decide, by decide⟩

theorem witness_AcquireReportsABrokenStreamAndAFailedGrant :
    (AcquireReady { asking answered with broken := true }) ∧
    (AcquireReady (asking { answered with status := .recoverable }) ∧
      (asking { answered with status := .recoverable }).broken = false) ∧
    (AcquireReady (asking { answered with status := .fatal }) ∧
      (asking { answered with status := .fatal }).broken = false) :=
  ⟨⟨rfl, rfl, rfl, by decide, by decide, rfl⟩, ⟨asking_ready _, rfl⟩, asking_ready _, rfl⟩

/-- One below the window, one above it, and both of its ends while Acquired. -/
theorem witness_AcquireFaultsInOrder :
    (CallbackReady (configured .u8) ∧ (configured .u8).invActive = false) ∧
    (CallbackReady (active .u8) ∧ (args 3 0 0 (active .u8)).txn.arg0.toNat < (active .u8).fcMin.toNat ∧
      (active .u8).fcMax.toNat < (args 65 0 0 (active .u8)).txn.arg0.toNat) ∧
    (CallbackReady (held .u8) ∧ (held .u8).curState = .acquired ∧
      (held .u8).fcMin.toNat ≤ (args 4 0 0 (held .u8)).txn.arg0.toNat ∧
      (args 64 0 0 (held .u8)).txn.arg0.toNat ≤ (held .u8).fcMax.toNat) :=
  ⟨⟨⟨rfl, rfl⟩, rfl⟩, ⟨⟨rfl, rfl⟩, by decide, by decide⟩, ⟨rfl, rfl⟩, rfl, by decide, by decide⟩

/-- The last channel and the last frame. -/
def sampling (f : Format) : State :=
  args 1 1 0x80 (held f)

theorem sampling_ready (f : Format) : SampleReady (sampling f) :=
  ⟨rfl, rfl, rfl, rfl, show 1 < 2 by decide, show 1 < 2 by decide⟩

theorem sampling_accessible :
    ∀ x ∈ (sampling .u32be).windowAddresses ⟨0x104, 8⟩ (sampling .u32be).txn.arg1.toNat,
      (sampling .u32be).accessible x = true := by
  decide

theorem witness_GetAnswersTheStoredSample :
    SampleReady (sampling .u32be) ∧ (sampling .u32be).areas[(sampling .u32be).txn.arg0.toNat]? = some ⟨0x104, 8⟩ ∧
    ∀ x ∈ (sampling .u32be).windowAddresses ⟨0x104, 8⟩ (sampling .u32be).txn.arg1.toNat,
      (sampling .u32be).accessible x = true :=
  ⟨sampling_ready _, rfl, sampling_accessible⟩

theorem witness_SetWritesTheConvertedSample :
    SampleReady (sampling .u32be) ∧ (sampling .u32be).areas[(sampling .u32be).txn.arg0.toNat]? = some ⟨0x104, 8⟩ ∧
    (∀ x ∈ (sampling .u32be).windowAddresses ⟨0x104, 8⟩ (sampling .u32be).txn.arg1.toNat,
      (sampling .u32be).accessible x = true) ∧
    ((0x10B : Nat) : Int) ∉ (sampling .u32be).windowAddresses ⟨0x104, 8⟩ (sampling .u32be).txn.arg1.toNat :=
  ⟨sampling_ready _, rfl, sampling_accessible, by decide⟩

theorem witness_GetAfterSetReturnsTheWrittenSample :
    SampleReady (sampling .u32be) ∧ (∃ t, exec (instrOf (.set .u8)) (sampling .u32be) = .next t) ∧
    (tx 0x40000000 1 1 0).arg0 = (sampling .u32be).txn.arg0 ∧ (tx 0x40000000 1 1 0).arg1 = (sampling .u32be).txn.arg1 := by
  refine ⟨sampling_ready _, ?_, by decide, by decide⟩
  have hn : nextHas (exec (instrOf (.set .u8)) (sampling .u32be)) (fun _ => true) = true := by decide
  cases h : exec (instrOf (.set .u8)) (sampling .u32be) with
  | next t => exact ⟨t, rfl⟩
  | fault f => rw [h] at hn; cases hn
  | refused r => rw [h] at hn; cases hn

/-- The first channel out of range, and the first frame out of range. -/
theorem witness_SampleAccessesFaultInOrder :
    (CallbackReady (configured .u8) ∧ (configured .u8).invActive = false) ∧
    (CallbackReady (active .u8) ∧ (active .u8).invActive = true ∧ (active .u8).curState = .idle) ∧
    (CallbackReady (args 2 0 0 (held .u8)) ∧ (held .u8).channels.toNat ≤ (args 2 0 0 (held .u8)).txn.arg0.toNat) ∧
    (CallbackReady (args 1 2 0 (held .u8)) ∧ (args 1 2 0 (held .u8)).txn.arg0.toNat < (held .u8).channels.toNat ∧
      (held .u8).granted.toNat ≤ (args 1 2 0 (held .u8)).txn.arg1.toNat) :=
  ⟨⟨⟨rfl, rfl⟩, rfl⟩, ⟨⟨rfl, rfl⟩, rfl, rfl⟩, ⟨⟨rfl, rfl⟩, by decide⟩, ⟨rfl, rfl⟩, by decide, by decide⟩

/-- A window with one byte, at −1, at 2^64 and at an address that is not admitted. -/
theorem witness_SampleAccessOffAdmittedMemoryIsStuck :
    (SampleReady { sampling .u8 with areas := [⟨0, 0⟩, ⟨0, -1⟩] } ∧
      (-1 : Int) ∈ (sampling .u8).windowAddresses ⟨0, -1⟩ 1) ∧
    (SampleReady { sampling .u8 with areas := [⟨0, 0⟩, ⟨2 ^ 64 - 1, 1⟩] } ∧
      (2 ^ 64 : Int) ∈ (sampling .u8).windowAddresses ⟨2 ^ 64 - 1, 1⟩ 1) ∧
    (SampleReady { sampling .u8 with admitted := [⟨0x100, 12⟩] } ∧
      (0x10C : Int) ∈ (sampling .u8).windowAddresses ⟨0x104, 8⟩ 1 ∧
      { sampling .u8 with admitted := [⟨0x100, 12⟩] }.admits 0x10C = false) :=
  ⟨⟨⟨rfl, rfl, rfl, rfl, by decide, by decide⟩, by decide⟩,
    ⟨⟨rfl, rfl, rfl, rfl, by decide, by decide⟩, by decide⟩,
    ⟨rfl, rfl, rfl, rfl, by decide, by decide⟩, by decide, by decide⟩

theorem witness_NoSampleAccessIsStuckUnderADutifulTransport :
    StateInv (sampling .i24be) ∧ SampleReady (sampling .i24be) ∧ SectionAdmitted (sampling .i24be) := by
  refine ⟨by constructor <;> decide, sampling_ready _, fun _ x hx => ?_⟩
  have all : ∀ a ∈ (sampling .i24be).areas, ∀ f < 2, ∀ k < 4,
      (sampling .i24be).accessible (a.slotAddress f + (k : Nat)) = true := by
    decide
  obtain ⟨a, ha, f, hf, k, hk, rfl⟩ := hx
  exact all a ha f hf k hk

/-- For every answer of the transport; idle; and outside an invocation. -/
theorem witness_CommitReleasesTheSection :
    (∀ c : Answer, CallbackReady (commits c (held .u8)) ∧ (commits c (held .u8)).invActive = true ∧
      (commits c (held .u8)).curState = .acquired) ∧
    (CallbackReady (active .u8) ∧ (active .u8).invActive = true ∧ (active .u8).curState = .idle) ∧
    CallbackReady (configured .u8) ∧ (configured .u8).invActive = false :=
  ⟨fun _ => ⟨⟨rfl, rfl⟩, rfl, rfl⟩, ⟨⟨rfl, rfl⟩, rfl, rfl⟩, ⟨rfl, rfl⟩, rfl⟩

/-- The last channel, and the first out of range. -/
theorem witness_AreaAnswersTheLoadedArea :
    (CallbackReady (args 1 0 0 (held .u8)) ∧ (held .u8).granted ≠ 0 ∧
      (args 1 0 0 (held .u8)).txn.arg0.toNat < (held .u8).channels.toNat ∧
      (held .u8).areas[(args 1 0 0 (held .u8)).txn.arg0.toNat]? = some ⟨0x104, 8⟩ ∧ 0x104 < 2 ^ 64) ∧
    (configured .u8).invActive = false ∧ ((active .u8).invActive = true ∧ (active .u8).curState = .idle) ∧
    (CallbackReady { active .u8 with curState := .acquired } ∧ { active .u8 with curState := .acquired }.granted = 0) ∧
    (held .u8).channels.toNat ≤ (args 2 0 0 (held .u8)).txn.arg0.toNat :=
  ⟨⟨⟨rfl, rfl⟩, by decide, by decide, rfl, by decide⟩, rfl, ⟨rfl, rfl⟩, ⟨⟨rfl, rfl⟩, rfl⟩, by decide⟩

/-- One channel and MAX_CHANNELS are accepted counts; 0 and MAX_CHANNELS + 1 are not; 0x20 is no format. -/
theorem witness_ConfigureFixesFormatAndChannels :
    LifecycleReady (onP1 State.reset) ∧ State.reset.cfgLocked = false ∧
    ((args 0x19 1 0 State.reset).txn.arg0.toNat = Format.f64be.code.toNat ∧
      1 ≤ (args 0x19 1 0 State.reset).txn.arg1.toNat) ∧
    (args 0x19 2 0 State.reset).txn.arg1.toNat ≤ State.reset.params.maxChannels ∧
    (onP1 (configured .u8)).cfgLocked = true ∧
    (∀ f : Format, (args 0x20 1 0 State.reset).txn.arg0.toNat ≠ f.code.toNat) ∧
    (args 0x19 0 0 State.reset).txn.arg1.toNat < 1 ∧
    State.reset.params.maxChannels < (args 0x19 3 0 State.reset).txn.arg1.toNat :=
  ⟨⟨rfl, rfl⟩, rfl, by decide, by decide, rfl, fun f => by cases f <;> decide, by decide, by decide⟩

/-- The windows [0, 0] and [0, 2^32 − 1] are legal; [1, 0] and [0, 2^32] are not. -/
theorem witness_InvStartOpensAnInvocation :
    LifecycleReady (onP1 (configured .u8)) ∧ (configured .u8).cfgLocked = true ∧ (configured .u8).invActive = false ∧
    (configured .u8).broken = false ∧
    ((args 0 0xFFFFFFFF 0 (configured .u8)).txn.arg0.toNat ≤ (args 0 0xFFFFFFFF 0 (configured .u8)).txn.arg1.toNat ∧
      (args 0 0xFFFFFFFF 0 (configured .u8)).txn.arg1.toNat < 2 ^ 32) ∧
    State.reset.cfgLocked = false ∧ (active .u8).invActive = true ∧
    { configured .u8 with broken := true }.broken = true ∧
    (args 1 0 0 (configured .u8)).txn.arg1.toNat < (args 1 0 0 (configured .u8)).txn.arg0.toNat ∧
    2 ^ 32 ≤ (args 0 0x100000000 0 (configured .u8)).txn.arg1.toNat :=
  ⟨⟨rfl, rfl⟩, rfl, rfl, rfl, by decide, rfl, rfl, rfl, by decide, by decide⟩

/-- For every answer of the transport, with the total of two frames on OK and of none otherwise; idle; and outside an
invocation. -/
theorem witness_InvEndCommitsImplicitly :
    (∀ c : Answer, LifecycleReady (onP1 (commits c (held .u8))) ∧ (commits c (held .u8)).invActive = true ∧
      (commits c (held .u8)).curState = .acquired ∧
      (if c = .ok then 2 else 0) = (if (commits c (held .u8)).txn.commit = .ok then
        min ((held .u8).committedTotal.toNat + (held .u8).granted.toNat) (2 ^ 64 - 1)
        else (held .u8).committedTotal.toNat)) ∧
    (LifecycleReady (onP1 (active .u8)) ∧ (active .u8).invActive = true ∧ (active .u8).curState = .idle) ∧
    LifecycleReady (onP1 (configured .u8)) ∧ (configured .u8).invActive = false :=
  ⟨fun c => ⟨⟨rfl, rfl⟩, rfl, rfl, by cases c <;> decide⟩, ⟨⟨rfl, rfl⟩, rfl, rfl⟩, ⟨rfl, rfl⟩, rfl⟩

/-- Every register number of the map, the first reserved one and the greatest. -/
theorem witness_RdregReadsTheRegisterMap :
    (List.range 11).all (fun n => decide ((args n 0 0 (held .u8)).txn.arg0.toNat = n)) = true ∧
    11 ≤ (args 11 0 0 (held .u8)).txn.arg0.toNat ∧ 11 ≤ (args (2 ^ 64 - 1) 0 0 (held .u8)).txn.arg0.toNat := by
  decide

theorem witness_TheResetEventRestoresEveryRegister :
    { held .u8 with inbox := [.reset] }.inbox = .reset :: [] := rfl

end Sys2Proof.Tests
end

section
/-!
PROOFS. Binary floating point (R10): a rounded number keeps every representable bound, and the value of a sum or a
product before its rounding.
-/

namespace Sys2Proof.Machine
open Sys2Proof.Safety

/-! ## Values -/

theorem finValue_eq (neg : Bool) (m : Nat) (e : Int) :
    finValue neg m e = (if neg then -1 else 1) * ((m : ℚ) * 2 ^ e) := by
  cases neg <;> simp [finValue, signed]

theorem abs_finValue (neg : Bool) (m : Nat) (e : Int) : |finValue neg m e| = (m : ℚ) * 2 ^ e := by
  have hpos : (0 : ℚ) ≤ m * 2 ^ e := by positivity
  cases neg <;> simp [finValue_eq, abs_of_nonneg hpos]

theorem finValue_mul (n1 n2 : Bool) (m1 m2 : Nat) (e1 e2 : Int) :
    finValue (n1 != n2) (m1 * m2) (e1 + e2) = finValue n1 m1 e1 * finValue n2 m2 e2 := by
  simp only [finValue_eq, zpow_add₀ (two_ne_zero' ℚ), Nat.cast_mul]
  cases n1 <;> cases n2 <;> simp <;> ring

/-- The value seen from the side `neg`: negated for the negative side. -/
theorem finValue_bne (n neg : Bool) (m : Nat) (e : Int) :
    finValue (n != neg) m e = (if neg then -1 else 1) * finValue n m e := by
  cases n <;> cases neg <;> simp [finValue_eq]

theorem signed_mul (neg : Bool) (m k : Nat) : signed neg (m * k) = signed neg m * k := by
  cases neg <;> simp [signed]

/-- An integer at the weight `2^e`, written at a lower weight. -/
theorem intCast_mul_zpow_rescale (n : Int) {e e' : Int} (h : e' ≤ e) :
    (n : ℚ) * 2 ^ e = ((n * 2 ^ (e - e').toNat : Int) : ℚ) * 2 ^ e' := by
  obtain ⟨i, rfl⟩ : ∃ i : Nat, e = e' + i := ⟨(e - e').toNat, by omega⟩
  rw [zpow_add₀ two_ne_zero]
  simp
  ring

/-- The datum of an integer times a power of two, by sign and magnitude. -/
theorem finValue_natAbs (v e : Int) :
    finValue (decide (v < 0)) v.natAbs e = (v : ℚ) * 2 ^ e := by
  have hs : signed (decide (v < 0)) v.natAbs = v := by
    unfold signed
    simp only [decide_eq_true_eq]
    split_ifs <;> omega
  rw [finValue, hs]

theorem log2_add_lt {m : Nat} {e k : Int} (hm : m ≠ 0) (h : (m : ℚ) * 2 ^ e < 2 ^ k) :
    (Nat.log2 m : Int) + e < k := by
  have hlog : (2 : ℚ) ^ (Nat.log2 m : Int) ≤ m := by exact_mod_cast Nat.log2_self_le hm
  have hlt : (2 : ℚ) ^ ((Nat.log2 m : Int) + e) < 2 ^ k :=
    calc (2 : ℚ) ^ ((Nat.log2 m : Int) + e) = 2 ^ (Nat.log2 m : Int) * 2 ^ e := zpow_add₀ two_ne_zero _ _
      _ ≤ m * 2 ^ e := by gcongr
      _ < 2 ^ k := h
  exact (zpow_lt_zpow_iff_right₀ one_lt_two).1 hlt

/-! ## Rounding to the nearest integer -/

/-- Rounding moves a quotient by at most one half. -/
theorem divNearestEven_near (m k : Nat) : |(divNearestEven m k : ℚ) - m / 2 ^ k| ≤ 1 / 2 := by
  have hp : (0 : ℚ) < 2 ^ k := by positivity
  have hm : (m : ℚ) = 2 ^ k * (m / 2 ^ k : Nat) + (m % 2 ^ k : Nat) := by exact_mod_cast (Nat.div_add_mod m _).symm
  have hquot : (m : ℚ) / 2 ^ k = (m / 2 ^ k : Nat) + ((m % 2 ^ k : Nat) : ℚ) / 2 ^ k := by
    rw [div_eq_iff hp.ne', add_mul, div_mul_cancel₀ _ hp.ne']
    linarith
  have hlow : 0 ≤ ((m % 2 ^ k : Nat) : ℚ) / 2 ^ k := by positivity
  have hhigh : ((m % 2 ^ k : Nat) : ℚ) / 2 ^ k ≤ 1 := by
    rw [div_le_one hp]
    exact_mod_cast (Nat.mod_lt m (Nat.two_pow_pos k)).le
  rw [hquot, abs_le, divNearestEven]
  simp only [Bool.or_eq_true, Bool.and_eq_true, decide_eq_true_eq]
  split_ifs with h
  · have hup : 1 / 2 ≤ ((m % 2 ^ k : Nat) : ℚ) / 2 ^ k := by
      rw [div_le_div_iff₀ two_pos hp]
      exact_mod_cast (by omega : 1 * 2 ^ k ≤ m % 2 ^ k * 2)
    constructor <;> push_cast <;> linarith
  · have hdown : ((m % 2 ^ k : Nat) : ℚ) / 2 ^ k ≤ 1 / 2 := by
      rw [div_le_div_iff₀ hp two_pos]
      exact_mod_cast (by omega : m % 2 ^ k * 2 ≤ 1 * 2 ^ k)
    constructor <;> linarith

theorem scaleNearestEven_near (m : Nat) (j : Int) : |(scaleNearestEven m j : ℚ) - m * 2 ^ j| ≤ 1 / 2 := by
  unfold scaleNearestEven
  split_ifs with h
  · lift j to Nat using h
    simp
  · obtain ⟨k, rfl⟩ : ∃ k : Nat, j = -k := ⟨(-j).toNat, by omega⟩
    simpa [div_eq_mul_inv] using divNearestEven_near m k

/-- Rounding to an integer does not fall below an integer. -/
theorem le_scaleNearestEven {n m : Nat} {j : Int} (h : (n : ℚ) ≤ m * 2 ^ j) : n ≤ scaleNearestEven m j := by
  have hn := (abs_le.1 (scaleNearestEven_near m j)).1
  have hlt : (n : ℚ) < scaleNearestEven m j + 1 := by linarith
  have : n < scaleNearestEven m j + 1 := by exact_mod_cast hlt
  omega

/-- Rounding to an integer does not rise above an integer. -/
theorem scaleNearestEven_le {n m : Nat} {j : Int} (h : (m : ℚ) * 2 ^ j ≤ n) : scaleNearestEven m j ≤ n := by
  have hn := (abs_le.1 (scaleNearestEven_near m j)).2
  have hlt : (scaleNearestEven m j : ℚ) < n + 1 := by linarith
  have : scaleNearestEven m j < n + 1 := by exact_mod_cast hlt
  omega

/-! ## Patterns and their data -/

namespace FloatFormat

variable (t : FloatFormat)

theorem infMag_lt : t.infMag < 2 ^ (t.prec - 1 + t.expBits) := by
  rw [infMag, Nat.pow_add, Nat.mul_comm]
  exact Nat.mul_lt_mul_of_pos_left (Nat.sub_one_lt (Nat.two_pow_pos _).ne') (Nat.two_pow_pos _)

theorem negOf_withSign (neg : Bool) {mag : Nat} (h : mag ≤ t.infMag) : t.negOf (t.withSign neg mag) = neg := by
  have hlt := h.trans_lt t.infMag_lt
  cases neg <;> simp [negOf, withSign, Nat.div_eq_of_lt hlt, Nat.add_div_left]

theorem magOf_withSign (neg : Bool) {mag : Nat} (h : mag ≤ t.infMag) : t.magOf (t.withSign neg mag) = mag := by
  have hlt := h.trans_lt t.infMag_lt
  cases neg <;> simp [magOf, withSign, Nat.mod_eq_of_lt hlt]

/-- The infinity's pattern stands for it. -/
theorem num_withSign_infMag (neg : Bool) : t.num (t.withSign neg t.infMag) = .inf neg := by
  simp only [num, t.negOf_withSign neg le_rfl, t.magOf_withSign neg le_rfl]
  simp [infMag]

/-- Below infinity, an exponent field of `k + 1` over a significand `s` with its leading bit, or of 0 over one without,
stands for `s` at the weight `k` above the least. -/
theorem num_withSign_significand (neg : Bool) {k s : Nat} (hs : s < 2 * 2 ^ (t.prec - 1))
    (hk : k = 0 ∨ 2 ^ (t.prec - 1) ≤ s) (h : k * 2 ^ (t.prec - 1) + s < t.infMag) :
    t.num (t.withSign neg (k * 2 ^ (t.prec - 1) + s)) = .fin neg s (t.qmin + k) := by
  have hn := t.negOf_withSign neg h.le
  have hm := t.magOf_withSign neg h.le
  have hp := Nat.two_pow_pos (t.prec - 1)
  unfold infMag at h
  simp only [num, hn, hm]
  generalize 2 ^ (t.prec - 1) = p at *
  by_cases hsp : s < p
  · obtain rfl : k = 0 := by omega
    have hne : 0 ≠ 2 ^ t.expBits - 1 := by rintro h0; simp [← h0] at h
    simp [Nat.div_eq_of_lt hsp, Nat.mod_eq_of_lt hsp, hne]
  · obtain ⟨f, rfl⟩ : ∃ f, s = p + f := ⟨s - p, by omega⟩
    have hf : f < p := by omega
    have hform : k * p + (p + f) = f + p * (k + 1) := by ring
    have hdiv : (k * p + (p + f)) / p = k + 1 := by
      rw [hform, Nat.add_mul_div_left _ _ hp, Nat.div_eq_of_lt hf, Nat.zero_add]
    have hmod : (k * p + (p + f)) % p = f := by
      rw [hform, Nat.add_mul_mod_self_left, Nat.mod_eq_of_lt hf]
    have hne : k + 1 ≠ 2 ^ t.expBits - 1 := by
      rintro h0
      rw [← h0, Nat.add_mul] at h
      omega
    simp [hdiv, hmod, hne]

/-- A carry out of the significand counts into the exponent field. -/
theorem num_withSign_carry (neg : Bool) {k : Nat} (h : k * 2 ^ (t.prec - 1) + 2 * 2 ^ (t.prec - 1) < t.infMag) :
    t.num (t.withSign neg (k * 2 ^ (t.prec - 1) + 2 * 2 ^ (t.prec - 1))) =
      .fin neg (2 ^ (t.prec - 1)) (t.qmin + k + 1) := by
  have hcarry : k * 2 ^ (t.prec - 1) + 2 * 2 ^ (t.prec - 1) = (k + 1) * 2 ^ (t.prec - 1) + 2 ^ (t.prec - 1) := by ring
  have hlt : 2 ^ (t.prec - 1) < 2 * 2 ^ (t.prec - 1) := by have := Nat.two_pow_pos (t.prec - 1); omega
  rw [hcarry] at h ⊢
  rw [t.num_withSign_significand neg hlt (.inr le_rfl) h, Nat.cast_succ, add_assoc]

/-- What a finite datum of a pattern can be. -/
theorem bounds_of_num_eq_fin {p m : Nat} {neg : Bool} {e : Int} (h : t.num p = .fin neg m e) :
    m < 2 * 2 ^ (t.prec - 1) ∧ t.qmin ≤ e ∧ e ≤ t.qmin + (2 ^ t.expBits - 3 : Nat) := by
  have hp := Nat.two_pow_pos (t.prec - 1)
  have hfrac := Nat.mod_lt (t.magOf p) hp
  have hex : t.magOf p / 2 ^ (t.prec - 1) < 2 ^ t.expBits :=
    Nat.div_lt_of_lt_mul (by rw [← Nat.pow_add]; exact Nat.mod_lt _ (Nat.two_pow_pos _))
  simp only [num] at h
  split_ifs at h with h1 h2 h3 <;> injection h with _ hm he <;> subst hm he
  · omega
  · omega

/-! ## Rounding a number -/

/-- The significand of `m·2^e` at its quantum. -/
def significand (m : Nat) (e : Int) : Nat :=
  scaleNearestEven m (e - t.quantum m e)

theorem qmin_le_quantum (m : Nat) (e : Int) : t.qmin ≤ t.quantum m e :=
  le_max_right _ _

theorem significand_le (m : Nat) (e : Int) : t.significand m e ≤ 2 * 2 ^ (t.prec - 1) := by
  apply scaleNearestEven_le
  have hm : (m : ℚ) ≤ 2 ^ ((Nat.log2 m : Int) + 1) := by
    exact_mod_cast (Nat.lt_log2_self (n := m)).le
  have hq : (Nat.log2 m : Int) + e - (t.prec - 1 : Nat) ≤ t.quantum m e := le_max_left _ _
  calc (m : ℚ) * 2 ^ (e - t.quantum m e)
      ≤ 2 ^ ((Nat.log2 m : Int) + 1) * 2 ^ (e - t.quantum m e) := by gcongr
    _ = 2 ^ ((Nat.log2 m : Int) + 1 + (e - t.quantum m e)) := (zpow_add₀ two_ne_zero _ _).symm
    _ ≤ 2 ^ (1 + ((t.prec - 1 : Nat) : Int)) := zpow_le_zpow_right₀ one_le_two (by omega)
    _ = ((2 * 2 ^ (t.prec - 1) : Nat) : ℚ) := by rw [zpow_add₀ two_ne_zero]; norm_cast

/-- Above the least quantum the significand has its leading bit. -/
theorem le_significand {m : Nat} {e : Int} (hm : m ≠ 0) (h : t.qmin < t.quantum m e) :
    2 ^ (t.prec - 1) ≤ t.significand m e := by
  apply le_scaleNearestEven
  have hq : t.quantum m e = (Nat.log2 m : Int) + e - (t.prec - 1 : Nat) := by
    unfold quantum at h ⊢
    omega
  have hlog : (2 : ℚ) ^ (Nat.log2 m : Int) ≤ m := by exact_mod_cast Nat.log2_self_le hm
  calc ((2 ^ (t.prec - 1) : Nat) : ℚ) = 2 ^ (((t.prec - 1 : Nat) : Int)) := by norm_cast
    _ = 2 ^ ((Nat.log2 m : Int) + (e - t.quantum m e)) := by rw [hq]; congr 1; ring
    _ = 2 ^ (Nat.log2 m : Int) * 2 ^ (e - t.quantum m e) := zpow_add₀ two_ne_zero _ _
    _ ≤ m * 2 ^ (e - t.quantum m e) := by gcongr

/-- `m·2^e` rounds to its significand at its quantum, or to infinity where that pattern does not stand below the
infinity's. -/
theorem num_round (neg : Bool) {m : Nat} (e : Int) (hm : m ≠ 0) :
    (t.infMag ≤ (t.quantum m e - t.qmin).toNat * 2 ^ (t.prec - 1) + t.significand m e ∧
      t.num (t.round neg m e) = .inf neg) ∨
    ∃ m' e', t.num (t.round neg m e) = .fin neg m' e' ∧
      ((m' : ℚ) * 2 ^ e' = t.significand m e * 2 ^ t.quantum m e) := by
  have hround : t.round neg m e = t.withSign neg
      (min ((t.quantum m e - t.qmin).toNat * 2 ^ (t.prec - 1) + t.significand m e) t.infMag) := by
    simp only [round, roundMag, hm, if_false]
    rfl
  rw [hround]
  obtain ⟨k, hk⟩ : ∃ k : Nat, t.quantum m e = t.qmin + k :=
    ⟨(t.quantum m e - t.qmin).toNat, by have := t.qmin_le_quantum m e; omega⟩
  have hk' : (t.quantum m e - t.qmin).toNat = k := by omega
  have hlead : k = 0 ∨ 2 ^ (t.prec - 1) ≤ t.significand m e := by
    rcases Nat.eq_zero_or_pos k with h | h
    · exact .inl h
    · exact .inr (t.le_significand hm (by omega))
  rw [hk', hk]
  by_cases hinf : t.infMag ≤ k * 2 ^ (t.prec - 1) + t.significand m e
  · rw [min_eq_right hinf]
    exact .inl ⟨hinf, t.num_withSign_infMag neg⟩
  · rw [min_eq_left (by omega)]
    right
    rcases (t.significand_le m e).lt_or_eq with hs | hs
    · exact ⟨_, _, t.num_withSign_significand neg hs hlead (by omega), rfl⟩
    · rw [hs] at hinf ⊢
      refine ⟨_, _, t.num_withSign_carry neg (by omega), ?_⟩
      rw [zpow_add_one₀ two_ne_zero]
      push_cast
      ring

/-- A representable number that is not above `m·2^e` is not above its rounded value. -/
theorem le_rounded_of_le {m n : Nat} {e k : Int} (hm : m ≠ 0) (hn : n < 2 * 2 ^ (t.prec - 1)) (hk : t.qmin ≤ k)
    (h : (n : ℚ) * 2 ^ k ≤ m * 2 ^ e) : (n : ℚ) * 2 ^ k ≤ t.significand m e * 2 ^ t.quantum m e := by
  rcases le_or_gt (t.quantum m e) k with hq | hq
  · obtain ⟨i, hi⟩ : ∃ i : Nat, k = t.quantum m e + i := ⟨(k - t.quantum m e).toNat, by omega⟩
    have hscaled : (n : ℚ) * 2 ^ k = ((n * 2 ^ i : Nat) : ℚ) * 2 ^ t.quantum m e := by
      rw [hi, zpow_add₀ two_ne_zero]; push_cast; rw [zpow_natCast]; ring
    rw [hscaled] at h ⊢
    have hint : n * 2 ^ i ≤ t.significand m e := by
      apply le_scaleNearestEven
      rw [zpow_sub₀ two_ne_zero, ← mul_div_assoc, le_div_iff₀ (by positivity)]
      exact h
    gcongr
  · have hlead : 2 ^ (t.prec - 1) ≤ t.significand m e := t.le_significand hm (by omega)
    calc (n : ℚ) * 2 ^ k ≤ ((2 * 2 ^ (t.prec - 1) : Nat) : ℚ) * 2 ^ k := by gcongr
      _ = ((2 ^ (t.prec - 1) : Nat) : ℚ) * 2 ^ (k + 1) := by rw [zpow_add_one₀ two_ne_zero]; push_cast; ring
      _ ≤ t.significand m e * 2 ^ t.quantum m e := by
        gcongr
        · exact one_le_two
        · omega

/-- A sign and a magnitude up to infinity's make a pattern of the format's width. -/
theorem withSign_lt (neg : Bool) {mag : Nat} (h : mag ≤ t.infMag) :
    t.withSign neg mag < 2 ^ (t.prec - 1 + t.expBits + 1) := by
  have hlt := h.trans_lt t.infMag_lt
  rw [Nat.pow_succ]
  cases neg <;> simp [withSign] <;> omega

theorem round_lt (neg : Bool) (m : Nat) (e : Int) : t.round neg m e < 2 ^ (t.prec - 1 + t.expBits + 1) := by
  apply t.withSign_lt
  unfold roundMag
  split_ifs
  · exact Nat.zero_le _
  · exact min_le_right _ _

theorem num_round_zero (neg : Bool) (e : Int) (h : 0 < t.infMag) : t.num (t.round neg 0 e) = .fin neg 0 t.qmin := by
  have hp : 0 < 2 * 2 ^ (t.prec - 1) := by positivity
  simpa [round, roundMag] using t.num_withSign_significand neg (k := 0) hp (.inl rfl) (by omega)

end FloatFormat

end Sys2Proof.Machine
end

section
/-!
PROOFS. The ranges of the representations, their bus forms (R12, R78) and of what a conversion answers (R91, R107).
-/

namespace Sys2Proof
open Machine

/-! ## Kinds (R12) -/

theorem isSigned_iff (r : Rep) : r.isSigned = true ↔ r = .i8 ∨ r = .i16 ∨ r = .i24 ∨ r = .i32 := by
  cases r <;> decide

theorem isFloat_iff (r : Rep) : r.isFloat = true ↔ r = .f32 ∨ r = .f64 := by
  cases r <;> decide

/-! ## Bus forms (R78) -/

theorem intOf_of_unsigned {r : Rep} (h : r.isSigned = false) (p : Nat) : r.intOf p = p := by
  simp [Rep.intOf, h]

theorem toNat_bus_of_unsigned {r : Rep} (h : r.isSigned = false) {p : Nat} (hp : p < 2 ^ r.width) :
    (bus r p).toNat = p := by
  have hw : r.width ≤ 64 := by cases r <;> decide
  rw [bus, intOf_of_unsigned h, BitVec.ofInt_natCast, BitVec.toNat_ofNat]
  exact Nat.mod_eq_of_lt (hp.trans_le (Nat.pow_le_pow_right two_pos hw))

/-- A signed pattern's integer fits the bus, which carries it sign-extended. -/
theorem toInt_bus_of_signed {r : Rep} (h : r.isSigned = true) {p : Nat} (hp : p < 2 ^ r.width) :
    (bus r p).toInt = r.intOf p := by
  have hf : r.isFloat = false := by revert h; cases r <;> decide
  obtain ⟨hl, hu⟩ := intOf_range r hf hp
  have hmin : -2 ^ 63 ≤ r.minInt := by cases r <;> decide
  have hmax : r.maxInt < 2 ^ 63 := by revert hf; cases r <;> decide
  rw [bus, BitVec.toInt_ofInt, Int.bmod_eq_of_le] <;> omega

theorem intOf_of_signed {r : Rep} (h : r.isSigned = true) (p : Nat) :
    r.intOf p = if 2 ^ (r.width - 1) ≤ p then (p : Int) - 2 ^ r.width else p := by
  simp [Rep.intOf, h]

/-! ## The range of a conversion -/

theorem patternOf_lt (r : Rep) (v : Int) : r.patternOf v < 2 ^ r.width := by
  have hp : (0 : Int) < 2 ^ r.width := by positivity
  have hl := Int.emod_nonneg v hp.ne'
  have hu := Int.emod_lt_of_pos v hp
  rw [Rep.patternOf, Int.toNat_lt hl]
  exact_mod_cast hu

namespace Machine

theorem intConv_lt {s d : Rep} {v : Nat} (hv : v < 2 ^ s.width) : intConv s d v < 2 ^ d.width := by
  have hp : (if s.isSigned = d.isSigned then v else flipSign s.width v) < 2 ^ s.width := by
    split_ifs
    · exact hv
    · exact Nat.mod_lt _ (Nat.two_pow_pos _)
  unfold intConv
  generalize (if s.isSigned = d.isSigned then v else flipSign s.width v) = p at hp ⊢
  dsimp only
  split_ifs with hw
  · calc p * 2 ^ (d.width - s.width) < 2 ^ s.width * 2 ^ (d.width - s.width) := by gcongr
      _ = 2 ^ d.width := by rw [← Nat.pow_add]; congr 1; omega
  · apply Nat.div_lt_of_lt_mul
    rwa [← Nat.pow_add, Nat.sub_add_cancel (by omega)]

/-- A float representation is as wide as its format's sign, exponent field and fraction together. -/
theorem width_of_isFloat {r : Rep} (h : r.isFloat = true) :
    (floatFormat r).prec - 1 + (floatFormat r).expBits + 1 = r.width := by
  revert h
  cases r <;> decide

theorem nanDraw_lt (d : Rep) (k : Nat) : nanDraw d k < 2 ^ d.width := by
  unfold nanDraw
  split
  · exact Nat.mod_lt _ (Nat.two_pow_pos _)
  · split_ifs <;> exact BitVec.isLt _
  · exact Nat.mod_lt _ (Nat.two_pow_pos _)

theorem f32ToF64_lt {v p : Nat} (h : f32ToF64 v = some p) : p < 2 ^ 64 := by
  unfold f32ToF64 at h
  split at h <;> cases h
  · exact binary64.withSign_lt _ le_rfl
  · exact binary64.round_lt _ _ _

theorem f64ToF32_lt {v p : Nat} (h : f64ToF32 v = some p) : p < 2 ^ 32 := by
  have hmax (neg : Bool) : binary32.withSign neg fltMaxMag < 2 ^ 32 := binary32.withSign_lt neg (by decide)
  unfold f64ToF32 at h
  split at h
  · cases h
  · cases h; exact hmax _
  · split_ifs at h <;> cases h
    · exact hmax _
    · exact hmax _
    · exact binary32.round_lt _ _ _

/-- From one float to the other `conv` is `f32ToF64` or `f64ToF32`, or a draw where that answers none. -/
theorem conv_floatToFloat {s d : Rep} (hs : s.isFloat = true) (hd : d.isFloat = true) (h : s ≠ d) (v k : Nat) :
    conv s d v k = (if s = .f32 then f32ToF64 v else f64ToF32 v).getD (nanDraw d k) := by
  simp [conv, convFixed, convClass, h, hs, hd]

theorem conv_self (r : Rep) (v k : Nat) : conv r r v k = v := by
  simp [conv, convFixed, convClass]

/-- What a conversion makes of a pattern, or draws, is a pattern of the destination's width. -/
theorem conv_lt (s d : Rep) {v : Nat} (hv : v < 2 ^ s.width) (k : Nat) : conv s d v k < 2 ^ d.width := by
  have hdraw := nanDraw_lt d k
  by_cases hsd : s = d
  · subst hsd
    rwa [conv_self]
  cases hs : s.isFloat <;> cases hd : d.isFloat
  case false.false =>
    rw [(conv_int hs hd hsd v k).1]
    exact intConv_lt hv
  case false.true =>
    rw [(conv_intToFloat hs hd v k).1, ← width_of_isFloat hd]
    exact FloatFormat.round_lt _ _ _ _
  case true.false =>
    rw [conv_floatToInt hs hd]
    cases floatToInt d ((floatFormat s).num v) with
    | none => exact hdraw
    | some i => exact patternOf_lt d i
  case true.true =>
    rw [conv_floatToFloat hs hd hsd]
    obtain ⟨rfl, rfl⟩ | ⟨rfl, rfl⟩ : s = .f32 ∧ d = .f64 ∨ s = .f64 ∧ d = .f32 := by
      rcases (isFloat_iff s).1 hs with rfl | rfl <;> rcases (isFloat_iff d).1 hd with rfl | rfl <;> simp at hsd ⊢
    · rw [if_pos rfl]
      cases hp : f32ToF64 v with
      | none => exact hdraw
      | some p => exact f32ToF64_lt hp
    · rw [if_neg (by decide)]
      cases hp : f64ToF32 v with
      | none => exact hdraw
      | some p => exact f64ToF32_lt hp

end Machine

/-- Settles O37: the widths, kinds and ranges by the ten representations, the bus forms by their laws, and the range of
a conversion by its class. -/
theorem conversionsStayInTheDestinationsRange : Obligations.ConversionsStayInTheDestinationsRange := by
  refine ⟨rfl, fun r => ⟨isSigned_iff r, isFloat_iff r, fun _ => ⟨rfl, rfl⟩⟩, fun _ _ => rfl, fun r p hp => ⟨?_, ?_⟩,
    fun s d x k => ?_⟩
  · exact fun h => ⟨toNat_bus_of_unsigned h hp, intOf_of_unsigned h p⟩
  · intro h
    have hbus := toInt_bus_of_signed h hp
    exact ⟨hbus.trans (intOf_of_signed h p), hbus.symm⟩
  · have hlt := conv_lt s d (unbus_lt s x) k
    exact ⟨hlt, unbus_bus d hlt⟩

end Sys2Proof
end

section
/-!
PROOFS. The float mapping (R101): on which side of a bound each binary64 operation stands, and the clamp.
-/

namespace Sys2Proof.Machine
open Sys2Proof.Safety

/-! ## binary64 (R10) -/

/-- A power of two in binary64's range is exact. -/
theorem round64_two_pow (neg : Bool) {i : Nat} {j : Int} (hi : i ≤ 52) (hl : -1022 ≤ i + j) (hu : i + j ≤ 1023) :
    round64 neg (2 ^ i) j = .fin neg (2 ^ 52) (i + j - 52) := by
  have hq : binary64.quantum (2 ^ i) j = i + j - 52 := by
    simp only [FloatFormat.quantum, Nat.log2_two_pow, binary64]
    omega
  have hs : scaleNearestEven (2 ^ i) (j - (i + j - 52)) = 2 ^ 52 := by
    have hshift : (j - (i + j - 52)).toNat = 52 - i := by omega
    rw [scaleNearestEven, if_pos (by omega), hshift, ← Nat.pow_add, Nat.add_sub_cancel' hi]
  obtain ⟨k, hk⟩ : ∃ k : Nat, (k : Int) = i + j - 52 + 1074 := ⟨(i + j - 52 + 1074).toNat, by omega⟩
  have hbelow : k * 2 ^ 52 + 2 ^ 52 < binary64.infMag := by
    simp only [FloatFormat.infMag, binary64]
    omega
  have hmag : binary64.roundMag (2 ^ i) j = k * 2 ^ 52 + 2 ^ 52 := by
    have hk' : (i + j - 52 - binary64.qmin).toNat = k := by simp only [binary64]; omega
    simp only [FloatFormat.roundMag, (Nat.two_pow_pos i).ne', if_false, hq, hs, hk']
    exact min_eq_left hbelow.le
  rw [round64, FloatFormat.round, hmag,
    show i + j - 52 = binary64.qmin + k by simp only [binary64]; omega]
  exact binary64.num_withSign_significand neg (by decide) (.inr le_rfl) hbelow

theorem round64_zero (neg : Bool) (e : Int) : round64 neg 0 e = .fin neg 0 (-1074) :=
  binary64.num_round_zero neg e (by decide)

/-- Rounding stays finite below the middle between the greatest finite number and 2^1024. -/
theorem round64_finite (neg : Bool) {m : Nat} {e : Int} (h : (m : ℚ) * 2 ^ e < (2 ^ 54 - 1) * 2 ^ (970 : Int)) :
    ∃ m' e', round64 neg m e = .fin neg m' e' := by
  rcases eq_or_ne m 0 with rfl | hm
  · exact ⟨_, _, round64_zero neg e⟩
  refine (binary64.num_round neg e hm).elim (fun ⟨hinf, _⟩ => ?_) fun ⟨m', e', h', _⟩ => ⟨m', e', h'⟩
  exfalso
  have hlog : (Nat.log2 m : Int) + e < 970 + 54 := by
    apply log2_add_lt hm
    rw [zpow_add₀ two_ne_zero, mul_comm ((2 : ℚ) ^ (970 : Int))]
    exact h.trans_le (by gcongr; norm_num)
  have hquantum : binary64.quantum m e = max ((Nat.log2 m : Int) + e - 52) (-1074) := rfl
  have hfield : 2047 * 2 ^ 52 ≤ (binary64.quantum m e - -1074).toNat * 2 ^ 52 + binary64.significand m e := hinf
  have hle : binary64.significand m e ≤ 2 ^ 53 := binary64.significand_le m e
  have hq : binary64.quantum m e = 971 := by omega
  have hs : binary64.significand m e = 2 ^ 53 := by omega
  have hnear : (binary64.significand m e : ℚ) - m * 2 ^ (e - binary64.quantum m e) ≤ 1 / 2 :=
    (abs_le.1 (scaleNearestEven_near m _)).2
  rw [hs, hq, zpow_sub₀ two_ne_zero] at hnear
  have hdiv : (m : ℚ) * (2 ^ e / 2 ^ (971 : Int)) < (2 ^ 54 - 1) / 2 := by
    rw [← mul_div_assoc, div_lt_iff₀ (by positivity)]
    calc _ < _ := h
      _ = _ := by rw [show (971 : Int) = 970 + 1 from rfl, zpow_add_one₀ two_ne_zero]; ring
  generalize (m : ℚ) * (2 ^ e / 2 ^ (971 : Int)) = y at hnear hdiv
  push_cast at hnear
  linarith

/-- The sum of two finite numbers is their exact sum rounded. -/
theorem Num.add_fin (n1 n2 : Bool) (m1 m2 : Nat) (e1 e2 : Int) :
    ∃ n m e, (Num.fin n1 m1 e1).add (.fin n2 m2 e2) = round64 n m e ∧
      finValue n m e = finValue n1 m1 e1 + finValue n2 m2 e2 := by
  have hsum : finValue n1 m1 e1 + finValue n2 m2 e2 =
      ((signed n1 (m1 * 2 ^ (e1 - min e1 e2).toNat) + signed n2 (m2 * 2 ^ (e2 - min e1 e2).toNat) : Int) : ℚ) *
        2 ^ min e1 e2 := by
    rw [finValue, finValue, intCast_mul_zpow_rescale _ (min_le_left e1 e2),
      intCast_mul_zpow_rescale _ (min_le_right e1 e2), signed_mul, signed_mul]
    push_cast
    ring
  rw [hsum]
  simp only [Num.add]
  split_ifs with h
  · exact ⟨_, _, _, rfl, by simp [h, finValue_eq]⟩
  · exact ⟨_, _, _, rfl, finValue_natAbs _ _⟩

theorem Num.mul_comm (a b : Num) : a.mul b = b.mul a := by
  cases a <;> cases b <;> simp [Num.mul, bne_comm (α := Bool), Nat.mul_comm, Int.add_comm]

/-! ## Numbers beyond a bound -/

/-- The datum is no NaN, and seen from the side `side` it is at least `b`, the infinity of that side included. -/
def Num.Beyond (side : Bool) (b : ℚ) : Num → Prop
  | .nan => False
  | .inf n => n = side
  | .fin n m e => b ≤ finValue (n != side) m e

namespace Num.Beyond

variable {side : Bool} {p r : ℚ} {a a' : Num}

/-- Rounding does not cross a natural number of up to 53 bits. -/
theorem of_round64 {n : Bool} {m : Nat} {e : Int} {c : Nat} (hc : c < 2 ^ 53) (h : c ≤ finValue (n != side) m e) :
    (round64 n m e).Beyond side c := by
  rcases eq_or_ne m 0 with rfl | hm
  · rw [round64_zero]
    simpa [Num.Beyond, finValue_eq] using h
  have hpos : (0 : ℚ) < m * 2 ^ e := by have := Nat.pos_of_ne_zero hm; positivity
  by_cases hn : n = side
  · subst hn
    have hle : (c : ℚ) * 2 ^ (0 : Int) ≤ m * 2 ^ e := by simpa [finValue_eq] using h
    have hround := binary64.le_rounded_of_le hm hc (by decide) hle
    rcases binary64.num_round n e hm with ⟨-, h'⟩ | ⟨m', e', h', hv⟩ <;> rw [round64, h']
    · exact rfl
    · simpa [Num.Beyond, finValue_eq, hv] using hround
  · have hflip : (n != side) = true := bne_iff_ne.2 hn
    rw [hflip, finValue_eq, if_pos rfl] at h
    have : (0 : ℚ) ≤ c := c.cast_nonneg
    linarith

theorem neg (h : a.Beyond side p) : a.neg.Beyond (!side) p := by
  match a, h with
  | .inf _, h => exact congrArg not h
  | .fin _ _ _, h => simpa only [Num.Beyond, Num.neg, Bool.not_bne_not] using h

theorem add {c : Nat} (ha : a.Beyond side p) (hb : a'.Beyond side r) (hc : c < 2 ^ 53) (h : c ≤ p + r) :
    (a.add a').Beyond side c := by
  match a, a', ha, hb with
  | .inf n, .inf n', ha, hb =>
    obtain rfl : n = side := ha
    obtain rfl : n' = n := hb
    simp [Num.add, Num.Beyond]
  | .inf n, .fin _ _ _, ha, _ => exact ha
  | .fin _ _ _, .inf n, _, hb => exact hb
  | .fin n1 m1 e1, .fin n2 m2 e2, ha, hb =>
    obtain ⟨n, m, e, hround, hv⟩ := Num.add_fin n1 n2 m1 m2 e1 e2
    rw [hround]
    simp only [Num.Beyond] at ha hb
    apply of_round64 hc
    calc (c : ℚ) ≤ p + r := h
      _ ≤ finValue (n1 != side) m1 e1 + finValue (n2 != side) m2 e2 := by gcongr
      _ = finValue (n != side) m e := by simp only [finValue_bne, hv]; ring

/-- A factor that is not zero turns the side by its sign and scales the bound by its magnitude. -/
theorem mul_fin {c : Nat} {n : Bool} {m : Nat} {e : Int} (ha : a.Beyond side p) (hm : m ≠ 0) (hc : c < 2 ^ 53)
    (h : c ≤ p * (m * 2 ^ e)) : (a.mul (.fin n m e)).Beyond (side != n) c := by
  match a, ha with
  | .inf n', ha =>
    obtain rfl : n' = side := ha
    simp [Num.mul, hm, Num.Beyond]
  | .fin n1 m1 e1, ha =>
    simp only [Num.Beyond] at ha
    apply of_round64 hc
    have hside : ((n1 != n) != (side != n)) = ((n1 != side) != false) := by cases n1 <;> cases n <;> cases side <;> rfl
    rw [hside, finValue_mul]
    calc (c : ℚ) ≤ p * (m * 2 ^ e) := h
      _ ≤ finValue (n1 != side) m1 e1 * (m * 2 ^ e) := by gcongr
      _ = _ := by simp [finValue_eq]

/-- A finite number times a zero is a zero, which is on either side. -/
theorem fin_mul_zero (n n' : Bool) (m : Nat) (e e' : Int) :
    ((Num.fin n m e).mul (.fin n' 0 e')).Beyond side 0 := by
  have h : (round64 (n != n') (m * 0) (e + e')).Beyond side (0 : Nat) := of_round64 (by decide) (by simp [finValue_eq])
  exact_mod_cast h

end Num.Beyond

/-! ## Comparison and truncation -/

theorem finLt_iff (neg : Bool) (m : Nat) (e n k : Int) :
    finLt neg m e n k = true ↔ finValue neg m e < n * 2 ^ k := by
  rw [finValue, intCast_mul_zpow_rescale _ (min_le_left e k), intCast_mul_zpow_rescale n (min_le_right e k),
    mul_lt_mul_iff_left₀ (by positivity), Int.cast_lt]
  simp [finLt]

theorem finGt_iff (neg : Bool) (m : Nat) (e n k : Int) :
    finGt neg m e n k = true ↔ n * 2 ^ k < finValue neg m e := by
  rw [finValue, intCast_mul_zpow_rescale _ (min_le_left e k), intCast_mul_zpow_rescale n (min_le_right e k),
    mul_lt_mul_iff_left₀ (by positivity), Int.cast_lt]
  simp [finGt]

/-- A finite datum that is an integer truncates to it. -/
theorem Num.trunc_of_finValue_eq {neg : Bool} {m : Nat} {e v : Int} (h : finValue neg m e = v) :
    (Num.fin neg m e).trunc = some v := by
  rw [Num.trunc, Option.some_inj]
  rw [finValue] at h
  split_ifs with he
  · obtain ⟨k, rfl⟩ : ∃ k : Nat, e = k := ⟨e.toNat, by omega⟩
    rw [← Int.cast_inj (α := ℚ), ← h]
    cases neg <;> simp [signed]
  · obtain ⟨k, rfl⟩ : ∃ k : Nat, e = -k := ⟨(-e).toNat, by omega⟩
    have hv : signed neg m = v * (2 ^ k : Nat) := by
      rw [zpow_neg, ← div_eq_mul_inv, div_eq_iff (by positivity)] at h
      exact_mod_cast h
    have hm : m = v.natAbs * 2 ^ k := by
      have := congrArg Int.natAbs hv
      cases neg <;> simpa [signed, Int.natAbs_mul, Int.natAbs_pow] using this
    rw [hm, signed_mul] at hv
    rw [neg_neg, Int.toNat_natCast, hm, Nat.mul_div_cancel _ (Nat.two_pow_pos k)]
    exact mul_right_cancel₀ (by positivity) hv

/-! ## The mapping (R101) -/

/-- The weight exponent of `max + 1` (R12). -/
def topExp (d : Rep) : Nat :=
  if d.isSigned then d.width - 1 else d.width

theorem topExp_le {d : Rep} (hd : d.isFloat = false) : topExp d ≤ 32 := by
  revert hd
  cases d <;> decide

theorem maxInt_add_one (d : Rep) : d.maxInt + 1 = 2 ^ topExp d := by
  cases d <;> rfl

theorem minInt_eq (d : Rep) : d.minInt = if d.isSigned then -2 ^ topExp d else 0 := by
  cases d <;> rfl

theorem numOfInt_maxInt_add_one {d : Rep} (hd : d.isFloat = false) :
    numOfInt (d.maxInt + 1) = .fin false (2 ^ 52) (topExp d - 52) := by
  have h := topExp_le hd
  have hneg : decide ((2 : Int) ^ topExp d < 0) = false := by simp
  have habs : ((2 : Int) ^ topExp d).natAbs = 2 ^ topExp d := by simp [Int.natAbs_pow]
  rw [maxInt_add_one, numOfInt, hneg, habs, round64_two_pow false (by omega) (by omega) (by omega), add_zero]

theorem numOfInt_minInt {d : Rep} (hd : d.isFloat = false) :
    numOfInt d.minInt = if d.isSigned then .fin true (2 ^ 52) (topExp d - 52) else .fin false 0 (-1074) := by
  have h := topExp_le hd
  rw [minInt_eq]
  split_ifs
  · have hneg : decide (-(2 : Int) ^ topExp d < 0) = true := by simp
    have habs : (-(2 : Int) ^ topExp d).natAbs = 2 ^ topExp d := by simp [Int.natAbs_pow]
    rw [numOfInt, hneg, habs, round64_two_pow true (by omega) (by omega) (by omega), add_zero]
  · exact round64_zero false 0

theorem numOf_one : numOf 1 0 = .fin false (2 ^ 52) (-52) :=
  round64_two_pow false (i := 0) (by decide) (by decide) (by decide)

theorem numOf_half : numOf 1 (-1) = .fin false (2 ^ 52) (-53) :=
  round64_two_pow false (i := 0) (by decide) (by decide) (by decide)

/-- R101's formula, before the clamp. -/
def affineMap (d : Rep) (w : Num) : Num :=
  (numOf 1 (-1)).mul
    (((w.add (numOf 1 0)).mul (numOfInt (d.maxInt + 1))).add (((numOf 1 0).sub w).mul (numOfInt d.minInt)))

/-- R101's clamp and truncation. -/
def clampTrunc (d : Rep) (x : Num) : Option Int :=
  let y := if x.lt d.minInt 0 then numOfInt d.minInt else x
  (if y.gt d.maxInt 0 then numOfInt d.maxInt else y).trunc

theorem floatToInt_fin (d : Rep) (neg : Bool) (m : Nat) (e : Int) :
    floatToInt d (.fin neg m e) = clampTrunc d (affineMap d (.fin neg m e)) :=
  rfl

/-- The mantissa 2^52 of a power of two undoes the 52 taken from its exponent. -/
theorem two_pow_52_mul (k : Int) : ((2 ^ 52 : Nat) : ℚ) * 2 ^ (k - 52) = 2 ^ k := by
  rw [zpow_sub₀ two_ne_zero]
  norm_num
  ring

theorem two_pow_topExp_le {d : Rep} (hd : d.isFloat = false) : 2 ^ topExp d ≤ 2 ^ 32 :=
  Nat.pow_le_pow_right (by decide) (topExp_le hd)

theorem natAbs_minInt_le {d : Rep} (hd : d.isFloat = false) : d.minInt.natAbs ≤ 2 ^ 32 := by
  revert hd
  cases d <;> decide

namespace Num.Beyond

variable {side : Bool} {d : Rep} {x : Num} {a c : Nat}

theorem mul_maxInt_add_one (hd : d.isFloat = false) (ha : a ≤ 2) (h : x.Beyond side a) :
    (x.mul (numOfInt (d.maxInt + 1))).Beyond side (a * 2 ^ topExp d : Nat) := by
  have hle : a * 2 ^ topExp d ≤ 2 * 2 ^ 32 := Nat.mul_le_mul ha (two_pow_topExp_le hd)
  have hmul := h.mul_fin (c := a * 2 ^ topExp d) (n := false) (m := 2 ^ 52) (e := topExp d - 52) (by decide) (by omega)
    (by rw [two_pow_52_mul]; push_cast; rfl)
  rwa [Bool.bne_false, ← numOfInt_maxInt_add_one hd] at hmul

/-- The factor `min` changes the side; where it is zero the product is on either side. -/
theorem mul_minInt (hd : d.isFloat = false) (ha : a ≤ 2) (h : x.Beyond (!side) a) (hfin : ∃ n m e, x = .fin n m e) :
    (x.mul (numOfInt d.minInt)).Beyond side (a * d.minInt.natAbs : Nat) := by
  have hle : a * d.minInt.natAbs ≤ 2 * 2 ^ 32 := Nat.mul_le_mul ha (natAbs_minInt_le hd)
  rw [minInt_eq] at hle
  rw [numOfInt_minInt hd, minInt_eq]
  split_ifs at hle ⊢
  · rw [Int.natAbs_neg, Int.natAbs_pow, show Int.natAbs 2 = 2 from rfl] at hle ⊢
    have hmul := h.mul_fin (c := a * 2 ^ topExp d) (n := true) (m := 2 ^ 52) (e := topExp d - 52) (by decide) (by omega)
      (by rw [two_pow_52_mul]; push_cast; rfl)
    rwa [Bool.bne_true, Bool.not_not] at hmul
  · obtain ⟨n, m, e, rfl⟩ := hfin
    exact_mod_cast fin_mul_zero n false m e (-1074)

theorem half_mul (h : x.Beyond side a) (hc : c < 2 ^ 53) (hac : 2 * c ≤ a) :
    ((numOf 1 (-1)).mul x).Beyond side c := by
  have hac' : (2 * c : ℚ) ≤ a := by exact_mod_cast hac
  have hmul := h.mul_fin (c := c) (n := false) (m := 2 ^ 52) (e := -1 - 52) (by decide) hc
    (by rw [two_pow_52_mul]; norm_num; linarith)
  rw [Bool.bne_false] at hmul
  rwa [Num.mul_comm, numOf_half]

end Num.Beyond

/-- Where `1 + w` lies at least `a` to one side and `1 − w`, finite, at least `b` to the other, the formula lies on the
first side, half of `a·(max+1) + b·|min|` out. -/
theorem affineMap_beyond {d : Rep} (hd : d.isFloat = false) {side : Bool} {a b c : Nat} {w : Num} (ha : a ≤ 2)
    (hb : b ≤ 2) (h1 : (w.add (numOf 1 0)).Beyond side a) (h4 : ((numOf 1 0).sub w).Beyond (!side) b)
    (hfin : ∃ n m e, (numOf 1 0).sub w = .fin n m e) (hc : 2 * c ≤ a * 2 ^ topExp d + b * d.minInt.natAbs) :
    (affineMap d w).Beyond side c := by
  have hat : a * 2 ^ topExp d ≤ 2 * 2 ^ 32 := Nat.mul_le_mul ha (two_pow_topExp_le hd)
  have hbm : b * d.minInt.natAbs ≤ 2 * 2 ^ 32 := Nat.mul_le_mul hb (natAbs_minInt_le hd)
  have h6 := (h1.mul_maxInt_add_one hd ha).add (h4.mul_minInt hd hb hfin)
    (c := a * 2 ^ topExp d + b * d.minInt.natAbs) (by omega) (by push_cast; rfl)
  exact h6.half_mul (by omega) hc

/-- `1 − w` stays finite for every finite binary64 number `w`. -/
theorem one_sub_finite {neg : Bool} {m : Nat} {e : Int} (hm : m < 2 ^ 53) (he : e ≤ 971) :
    ∃ n' m' e', (numOf 1 0).sub (.fin neg m e) = .fin n' m' e' := by
  rw [numOf_one]
  obtain ⟨n', m', e', hround, hv⟩ := Num.add_fin false (!neg) (2 ^ 52) m (-52) e
  have hone : finValue false (2 ^ 52) (-52) = 1 := by norm_num [finValue, signed]
  have hw : (m : ℚ) * 2 ^ e ≤ (2 ^ 53 - 1) * 2 ^ (971 : Int) := by
    have : (m : ℚ) ≤ 2 ^ 53 - 1 := by
      have : (m : ℚ) + 1 ≤ 2 ^ 53 := by exact_mod_cast hm
      linarith
    gcongr
    exact one_le_two
  have hlt : (m' : ℚ) * 2 ^ e' < (2 ^ 54 - 1) * 2 ^ (970 : Int) :=
    calc (m' : ℚ) * 2 ^ e' = |1 + finValue (!neg) m e| := by rw [← abs_finValue n' m' e', hv, hone]
      _ ≤ 1 + (m : ℚ) * 2 ^ e := by simpa only [abs_one, abs_finValue] using abs_add_le 1 (finValue (!neg) m e)
      _ ≤ 1 + (2 ^ 53 - 1) * 2 ^ (971 : Int) := by gcongr
      _ = 1 + (2 ^ 54 - 2) * 2 ^ (970 : Int) := by
        rw [show (971 : Int) = 970 + 1 from rfl, zpow_add_one₀ two_ne_zero]; ring
      _ < 2 ^ (970 : Int) + (2 ^ 54 - 2) * 2 ^ (970 : Int) := by
        gcongr
        exact one_lt_zpow₀ one_lt_two (by decide)
      _ = (2 ^ 54 - 1) * 2 ^ (970 : Int) := by ring
  obtain ⟨m'', e'', h⟩ := round64_finite n' hlt
  exact ⟨n', m'', e'', hround.trans h⟩

/-- From 1 on, the formula reaches `max + 1`. -/
theorem affineMap_beyond_max {d : Rep} (hd : d.isFloat = false) {neg : Bool} {m : Nat} {e : Int} (hm : m < 2 ^ 53)
    (he : e ≤ 971) (h : 1 ≤ finValue neg m e) :
    (affineMap d (.fin neg m e)).Beyond false (2 ^ topExp d : Nat) := by
  have hw : (Num.fin neg m e).Beyond false 1 := by simpa [Num.Beyond] using h
  have hone : (numOf 1 0).Beyond false 1 ∧ (numOf 1 0).Beyond true (-1) := by
    rw [numOf_one]; norm_num [Num.Beyond, finValue, signed]
  exact affineMap_beyond hd le_rfl (Nat.zero_le 2) (hw.add hone.1 (c := 2) (by decide) (by norm_num))
    (hone.2.add hw.neg (c := 0) (by decide) (by norm_num)) (one_sub_finite hm he) (by omega)

/-- From −1 down, the formula reaches `min`. -/
theorem affineMap_beyond_min {d : Rep} (hd : d.isFloat = false) {neg : Bool} {m : Nat} {e : Int} (hm : m < 2 ^ 53)
    (he : e ≤ 971) (h : finValue neg m e ≤ -1) :
    (affineMap d (.fin neg m e)).Beyond true (d.minInt.natAbs : Nat) := by
  have hw : (Num.fin neg m e).Beyond true 1 := by
    rw [Num.Beyond, finValue_bne]
    norm_num
    linarith
  have hone : (numOf 1 0).Beyond false 1 ∧ (numOf 1 0).Beyond true (-1) := by
    rw [numOf_one]; norm_num [Num.Beyond, finValue, signed]
  exact affineMap_beyond hd (Nat.zero_le 2) le_rfl (hw.add hone.2 (c := 0) (by decide) (by norm_num))
    (hone.1.add hw.neg (c := 2) (by decide) (by norm_num)) (one_sub_finite hm he) (by omega)

/-! ## The clamp -/

theorem Num.Beyond.lt_eq_false {x : Num} {b : ℚ} {n : Int} (h : x.Beyond false b) (hn : n ≤ b) :
    x.lt n 0 = false := by
  match x, h with
  | .inf _, h => exact h
  | .fin neg m e, h =>
    rw [Num.Beyond, Bool.bne_false] at h
    rw [Num.lt, ← Bool.not_eq_true, finLt_iff, zpow_zero, mul_one]
    exact (hn.trans h).not_gt

theorem Num.Beyond.gt_eq_true {x : Num} {b : ℚ} {n : Int} (h : x.Beyond false b) (hn : n < b) :
    x.gt n 0 = true := by
  match x, h with
  | .inf _, h => exact congrArg not h
  | .fin neg m e, h =>
    rw [Num.Beyond, Bool.bne_false] at h
    rw [Num.gt, finGt_iff, zpow_zero, mul_one]
    exact hn.trans_le h

/-- What is at most `n` is below `n` or is `n` itself. -/
theorem Num.Beyond.lt_or_eq {x : Num} {n : Int} (h : x.Beyond true (-n)) :
    x.lt n 0 = true ∨ x.lt n 0 = false ∧ ∃ neg m e, x = .fin neg m e ∧ finValue neg m e = n := by
  match x, h with
  | .inf _, h => exact .inl h
  | .fin neg m e, h =>
    have hle : finValue neg m e ≤ n := by
      rw [Num.Beyond, finValue_bne] at h
      simpa using h
    rw [Num.lt, ← Bool.not_eq_true, finLt_iff, zpow_zero, mul_one]
    rcases hle.lt_or_eq with hlt | heq
    · exact .inl hlt
    · exact .inr ⟨heq.not_lt, neg, m, e, rfl, heq⟩

theorem trunc_numOfInt_maxInt {d : Rep} (hd : d.isFloat = false) : (numOfInt d.maxInt).trunc = some d.maxInt := by
  revert hd
  cases d <;> decide

/-- `min` is exact in binary64. -/
theorem numOfInt_minInt_exact {d : Rep} (hd : d.isFloat = false) :
    ∃ neg m e, numOfInt d.minInt = .fin neg m e ∧ finValue neg m e = d.minInt := by
  rw [numOfInt_minInt hd, minInt_eq]
  split_ifs
  · exact ⟨_, _, _, rfl, by rw [finValue_eq, two_pow_52_mul]; simp⟩
  · exact ⟨_, _, _, rfl, by simp [finValue_eq]⟩

theorem minInt_lt_maxInt (d : Rep) : d.minInt < d.maxInt := by
  cases d <;> decide

theorem clampTrunc_of_beyond_max {d : Rep} (hd : d.isFloat = false) {x : Num}
    (h : x.Beyond false (2 ^ topExp d : Nat)) : clampTrunc d x = some d.maxInt := by
  have hmax : (d.maxInt : ℚ) + 1 = (2 ^ topExp d : Nat) := by exact_mod_cast maxInt_add_one d
  have hmin : (d.minInt : ℚ) < d.maxInt := by exact_mod_cast minInt_lt_maxInt d
  have hlt := h.lt_eq_false (n := d.minInt) (by linarith)
  have hgt := h.gt_eq_true (n := d.maxInt) (by linarith)
  simpa [clampTrunc, hlt, hgt] using trunc_numOfInt_maxInt hd

theorem clampTrunc_of_beyond_min {d : Rep} (hd : d.isFloat = false) {x : Num}
    (h : x.Beyond true (d.minInt.natAbs : Nat)) : clampTrunc d x = some d.minInt := by
  have habs : ((d.minInt.natAbs : Nat) : ℚ) = -d.minInt := by
    rw [minInt_eq]
    split_ifs <;> simp
  rw [habs] at h
  obtain ⟨neg, m, e, hy, hv⟩ : ∃ neg m e,
      (if x.lt d.minInt 0 then numOfInt d.minInt else x) = .fin neg m e ∧ finValue neg m e = d.minInt := by
    rcases h.lt_or_eq with hlt | ⟨hlt, hx⟩
    · simpa [hlt] using numOfInt_minInt_exact hd
    · simpa [hlt] using hx
  have hgt : (Num.fin neg m e).gt d.maxInt 0 = false := by
    rw [Num.gt, ← Bool.not_eq_true, finGt_iff, hv, zpow_zero, mul_one]
    exact_mod_cast (minInt_lt_maxInt d).not_gt
  simp only [clampTrunc, hy, hgt, Bool.false_eq_true, if_false]
  exact Num.trunc_of_finValue_eq hv

/-- A float's finite datum has a binary64 significand and exponent. -/
theorem bounds_of_float_num {r : Rep} {p m : Nat} {neg : Bool} {e : Int}
    (h : (floatFormat r).num p = .fin neg m e) : m < 2 ^ 53 ∧ e ≤ 971 := by
  obtain ⟨hm, -, he⟩ := (floatFormat r).bounds_of_num_eq_fin h
  unfold floatFormat at hm he
  split_ifs at hm he <;> simp only [binary32, binary64] at hm he <;> omega

/-- A finite float becomes the integer that the formula, clamped and truncated, gives. -/
theorem intOf_conv_of_clampTrunc {s d : Rep} (hs : s.isFloat = true) (hd : d.isFloat = false) {p m k : Nat} {neg : Bool}
    {e v : Int} (hnum : (floatFormat s).num p = .fin neg m e)
    (hv : clampTrunc d (affineMap d (.fin neg m e)) = some v) (hmin : d.minInt ≤ v) (hmax : v ≤ d.maxInt) :
    d.intOf (conv s d p k) = v := by
  rw [conv_floatToInt hs hd, hnum, floatToInt_fin, hv]
  exact intOf_patternOf d hd hmin hmax

end Sys2Proof.Machine

namespace Sys2Proof
open Machine Safety

/-- Settles O30: a finite value from 1 on takes the formula to `max + 1` and beyond, one from −1 down to `min` and
beyond, and the clamp does the rest. -/
theorem floatToIntegerSaturates : Obligations.FloatToIntegerSaturates := by
  intro s d x k q hs hd hq
  obtain ⟨neg, m, e, hnum, rfl⟩ := hq
  obtain ⟨hm, he⟩ := bounds_of_float_num hnum
  have hrange := (minInt_lt_maxInt d).le
  constructor
  · intro h
    have hclamp := clampTrunc_of_beyond_max hd (affineMap_beyond_max hd hm he h)
    exact intOf_conv_of_clampTrunc hs hd hnum hclamp hrange le_rfl
  · intro h
    have hclamp := clampTrunc_of_beyond_min hd (affineMap_beyond_min hd hm he h)
    exact intOf_conv_of_clampTrunc hs hd hnum hclamp le_rfl hrange

end Sys2Proof
end

section
/-!
PROOFS. What a command and a step can do (60_exceptions.md R184, R190; 70_reset_and_hazards.md R200), said once: an
invariant or a frame of every command is a case split over `Effect`, one of every step over `step_next`.
-/

namespace Sys2Proof.Machine
open Sys2Proof.Safety

/-! ## The grant and the implicit commit -/

/-- A grant of no frames loads nothing; any other takes the section. -/
theorem acquired_cases (g : Grant) (a : Nat) (s : State) :
    (a = 0 ∧ acquired g a s = { s with curState := .acquired, granted := 0 }) ∨
    (a ≠ 0 ∧ acquired g a s = takeSection g a { s with curState := .acquired, granted := BitVec.ofNat 32 a }) := by
  unfold acquired
  by_cases h : a = 0
  · subst h; exact .inl ⟨rfl, rfl⟩
  · exact .inr ⟨h, if_neg h⟩

/-- INV_END's implicit commit leaves Idle alone, and releases a section, with a trace where the answer is not OK. -/
theorem implicitCommit_cases (s : State) :
    (s.curState = .idle ∧ implicitCommit s = s) ∨
    (s.curState = .acquired ∧ s.txn.commit = .ok ∧ implicitCommit s = release s.txn.commit s) ∨
    (s.curState = .acquired ∧ s.txn.commit ≠ .ok ∧
      implicitCommit s =
        { release s.txn.commit s with
          discardLast := s.txn.commit.status.code
          discardCount := bumpDiscards s.discardCount }) := by
  unfold implicitCommit
  cases hc : s.curState with
  | idle => exact .inl ⟨rfl, rfl⟩
  | acquired =>
    by_cases hk : s.txn.commit = .ok
    · exact .inr (.inl ⟨rfl, hk, if_pos hk⟩)
    · exact .inr (.inr ⟨rfl, hk, if_neg hk⟩)

/-! ## Commands -/

/-- How a command that answers can leave the block: its response and the count of draws written alone, a fault raised,
or the one change its rule makes, with the conditions under which it makes it. -/
inductive Effect (s : State) : Command → State → Prop where
  | responds (c : Command) (reply : Option Response) (draws : Nat) :
      Effect s c { s with reply := reply, draws := draws }
  | faults (c : Command) (cause : Cause) (noFault : s.fault = false) : Effect s c (raiseFault cause s)
  | grants (ready : AcquireReady s) (unbroken : s.broken = false) (ok : s.txn.grant.status = .ok) :
      Effect s .acquire (result (BitVec.ofNat 64 (grantedFrames s.txn.grant s.txn.arg0))
        (acquired s.txn.grant (grantedFrames s.txn.grant s.txn.arg0) s))
  | breaks (ready : AcquireReady s) (unbroken : s.broken = false) (fatal : s.txn.grant.status = .fatal) :
      Effect s .acquire (answer .fatal { s with broken := true })
  | writes (r : Rep) (a : Area) (bytes : List Byte) (draws : Nat) (ready : SampleReady s)
      (area : s.areas[s.txn.arg0.toNat]? = some a)
      (accessible : ∀ x ∈ s.windowAddresses a s.txn.arg1.toNat, s.accessible x = true) :
      Effect s (.set r)
        (answer .ok { s.writeWindow (s.windowAddresses a s.txn.arg1.toNat) bytes with draws := draws })
  | releases (ready : CallbackReady s) (active : s.invActive = true) (held : s.curState = .acquired) :
      Effect s .commit (answer s.txn.commit.status (release s.txn.commit s))
  | configures (f : Format) (ready : LifecycleReady s) (unlocked : s.cfgLocked = false)
      (format : formatOfCode s.txn.arg0 = some f) (one_le : 1 ≤ s.txn.arg1.toNat)
      (le_max : s.txn.arg1.toNat ≤ s.params.maxChannels) :
      Effect s .configure (answer .ok { s with cfgFormat := f, channels := s.txn.arg1, cfgLocked := true })
  | starts (ready : LifecycleReady s) (locked : s.cfgLocked = true) (inactive : s.invActive = false)
      (unbroken : s.broken = false) (min_le : s.txn.arg0.toNat ≤ s.txn.arg1.toNat)
      (max_lt : s.txn.arg1.toNat < 2 ^ 32) :
      Effect s .invStart (answer .ok
        { s with
          invActive := true
          fcMin := s.txn.arg0.setWidth 32
          fcMax := s.txn.arg1.setWidth 32
          curState := .idle
          granted := 0
          committedTotal := 0
          shortfall := false })
  | ends (ready : LifecycleReady s) (active : s.invActive = true) :
      Effect s .invEnd (answer .ok
        { implicitCommit s with
          shortfall := shortOf (implicitCommit s).committedTotal (implicitCommit s).fcMin
          invActive := false })

/-- Both gates of a command (R184, R185) refuse or raise a fault, so an effect of the rule behind them is one of the
command. -/
theorem Effect.of_gated {c : Command} {legal : Port → Bool} {checks : State → List (Bool × Cause)}
    {rule : State → Host.Outcome State Fault Refusal} {s t : State}
    (h : gated legal (fun s => checked (checks s) rule s) s = .next t)
    (hrule : s.fault = false → legal s.port = true → (∀ x ∈ checks s, x.1 = false) → rule s = .next t →
      Effect s c t) : Effect s c t := by
  rcases gated_checked_next h with ⟨-, rfl⟩ | ⟨hf, cause, rfl⟩ | ⟨hf, hp, hc, hr⟩
  · exact .responds c _ s.draws
  · exact .faults c cause hf
  · exact hrule hf hp hc hr

theorem callbackPort_iff (p : Port) : callbackPort p = true ↔ p = .p0 := by
  simp [callbackPort]

theorem lifecyclePort_iff (p : Port) : lifecyclePort p = true ↔ p = .p1 := by
  simp [lifecyclePort]

theorem Cursor.ne_acquired_iff (c : Cursor) : c ≠ .acquired ↔ c = .idle := by
  cases c <;> decide

theorem Cursor.ne_idle_iff (c : Cursor) : c ≠ .idle ↔ c = .acquired := by
  cases c <;> decide

/-- ACQUIRE's checks pass exactly where `AcquireReady` says so. -/
theorem acquireReady_of_checks {s : State} (hf : s.fault = false) (hp : callbackPort s.port = true)
    (hc : ∀ x ∈ acquireChecks s, x.1 = false) : AcquireReady s := by
  obtain ⟨hact, ⟨hmin, hmax⟩, hidle⟩ : s.invActive = true ∧
      (s.fcMin.toNat ≤ s.txn.arg0.toNat ∧ s.txn.arg0.toNat ≤ s.fcMax.toNat) ∧ s.curState = .idle := by
    simpa [acquireChecks, Cursor.ne_acquired_iff] using hc
  exact ⟨hf, (callbackPort_iff _).mp hp, hact, hmin, hmax, hidle⟩

/-- The checks GET and SET share pass exactly where `SampleReady` says so. -/
theorem sampleReady_of_checks {s : State} (hf : s.fault = false) (hp : callbackPort s.port = true)
    (hc : ∀ x ∈ sampleChecks s, x.1 = false) : SampleReady s := by
  obtain ⟨hact, hheld, hchan, hframe⟩ : s.invActive = true ∧ s.curState = .acquired ∧
      s.txn.arg0.toNat < s.channels.toNat ∧ s.txn.arg1.toNat < s.granted.toNat := by
    simpa [sampleChecks, Cursor.ne_idle_iff] using hc
  exact ⟨hf, (callbackPort_iff _).mp hp, hact, hheld, hchan, hframe⟩

theorem cvt_effect {a b : Rep} {s t : State} (h : cvt a b s = .next t) : Effect s (.cvt a b) t :=
  .of_gated (checks := fun _ => []) h fun _ _ _ hr => by
    cases hr; exact .responds _ _ _

theorem rawrd_effect {r : Rep} {be : Bool} {s t : State} (h : rawrd r be s = .next t) : Effect s (.rawrd r be) t :=
  .of_gated (checks := fun _ => []) h fun _ _ _ hr => by
    cases hr; exact .responds _ _ s.draws

theorem rawwr_effect {r : Rep} {be : Bool} {s t : State} (h : rawwr r be s = .next t) : Effect s (.rawwr r be) t :=
  .of_gated (checks := fun _ => []) h fun _ _ _ hr => by
    cases hr; exact .responds _ _ s.draws

theorem execAcquire_effect {s t : State} (h : execAcquire s = .next t) : Effect s .acquire t :=
  .of_gated h fun hf hp hc hr => by
    have ready := acquireReady_of_checks hf hp hc
    unfold acquireRule at hr
    split at hr
    case isTrue => cases hr; exact .responds _ _ s.draws
    case isFalse hb =>
      have unbroken := Bool.eq_false_of_not_eq_true hb
      split at hr
      case h_1 ok => cases hr; exact .grants ready unbroken ok
      case h_2 => cases hr; exact .responds _ _ s.draws
      case h_3 fatal => cases hr; exact .breaks ready unbroken fatal

theorem getSample_effect {r : Rep} {s t : State} (h : getSample r s = .next t) : Effect s (.get r) t :=
  .of_gated h fun _ _ _ hr => by
    obtain ⟨a, -, -, hnext⟩ := withWindow_next hr
    cases hnext; exact .responds _ _ _

theorem setSample_effect {r : Rep} {s t : State} (h : setSample r s = .next t) : Effect s (.set r) t :=
  .of_gated h fun hf hp hc hr => by
    obtain ⟨a, ha, hx, hnext⟩ := withWindow_next hr
    cases hnext; exact .writes r a _ _ (sampleReady_of_checks hf hp hc) ha hx

theorem execCommit_effect {s t : State} (h : execCommit s = .next t) : Effect s .commit t :=
  .of_gated h fun hf hp hc hr => by
    have active : s.invActive = true := by simpa [commitChecks] using hc
    unfold commitRule at hr
    split at hr
    case h_1 => cases hr; exact .responds _ _ s.draws
    case h_2 held => cases hr; exact .releases ⟨hf, (callbackPort_iff _).mp hp⟩ active held

theorem execArea_effect {s t : State} (h : execArea s = .next t) : Effect s .area t :=
  .of_gated h fun _ _ _ hr => by
    unfold areaRule at hr
    split at hr <;> cases hr
    exact .responds _ _ s.draws

theorem execConfigure_effect {s t : State} (h : execConfigure s = .next t) : Effect s .configure t :=
  .of_gated h fun hf hp hc hr => by
    obtain ⟨unlocked, -, hmin, hmax⟩ : s.cfgLocked = false ∧ (formatOfCode s.txn.arg0).isSome ∧
        1 ≤ s.txn.arg1.toNat ∧ s.txn.arg1.toNat ≤ s.params.maxChannels := by
      simpa [configureChecks, Nat.one_le_iff_ne_zero] using hc
    unfold configureRule at hr
    split at hr
    case h_1 => cases hr; exact .faults _ _ hf
    case h_2 f format =>
      cases hr
      exact .configures f ⟨hf, (lifecyclePort_iff _).mp hp⟩ unlocked format hmin hmax

theorem execInvStart_effect {s t : State} (h : execInvStart s = .next t) : Effect s .invStart t :=
  .of_gated h fun hf hp hc hr => by
    obtain ⟨locked, inactive, unbroken, hle, hlt⟩ : s.cfgLocked = true ∧ s.invActive = false ∧
        s.broken = false ∧ s.txn.arg0.toNat ≤ s.txn.arg1.toNat ∧ s.txn.arg1.toNat < 2 ^ 32 := by
      simpa [invStartChecks] using hc
    cases hr
    exact .starts ⟨hf, (lifecyclePort_iff _).mp hp⟩ locked inactive unbroken hle hlt

theorem execInvEnd_effect {s t : State} (h : execInvEnd s = .next t) : Effect s .invEnd t :=
  .of_gated h fun hf hp hc hr => by
    have active : s.invActive = true := by simpa [invEndChecks] using hc
    cases hr
    exact .ends ⟨hf, (lifecyclePort_iff _).mp hp⟩ active

/-- Every instruction that answers a next state does so by one of the effects of its command. -/
theorem exec_effect {i : Instr} {s t : State} (h : exec i s = .next t) : Effect s i.command t := by
  rw [exec_eq_command] at h
  cases hc : i.command with rw [hc] at h
  | cvt a b => exact cvt_effect h
  | rawrd r be => exact rawrd_effect h
  | rawwr r be => exact rawwr_effect h
  | acquire => exact execAcquire_effect h
  | get r => exact getSample_effect h
  | set r => exact setSample_effect h
  | commit => exact execCommit_effect h
  | area => exact execArea_effect h
  | configure => exact execConfigure_effect h
  | invStart => exact execInvStart_effect h
  | invEnd => exact execInvEnd_effect h
  | rdreg => cases h; exact .responds _ _ s.draws

/-! ## Steps -/

/-- The transactions a step can accept, and the state that has accepted one (R190). -/
inductive Accepts (s : State) : State → Prop where
  | one {p : Port} {t : Transaction} {es : List Event} (presented : s.inbox = .transaction p t :: es) :
      Accepts s (accept p t es s)
  | both {t0 t1 : Transaction} {es : List Event} (presented : s.inbox = .both t0 t1 :: es) :
      Accepts s (acceptBoth t0 t1 es s)

/-- A performed transaction faults or is refused for its word, has an effect of its command, or is abandoned by the next
reset event. -/
theorem perform_next {s t : State} (h : perform s = .next t) :
    (∃ c, decode s.txn.cmd = .illegal c ∧ t = illegalWord c s) ∨
    (∃ i, decode s.txn.cmd = .command i ∧ Effect s i.command t) ∨
    (∃ i f before after, decode s.txn.cmd = .command i ∧ exec i s = .fault f ∧
      s.inbox = before ++ .reset :: after ∧ Event.reset ∉ before ∧
      t = resetBlock { s with inbox := before ++ after, abandoned := s.abandoned + 1 }) := by
  unfold perform at h
  cases hd : decode s.txn.cmd with rw [hd] at h
  | illegal c => cases h; exact .inl ⟨c, rfl, rfl⟩
  | command i =>
    dsimp only at h
    rcases orAbandoned_cases s (exec i s) with ⟨f, hf, ⟨-, ho⟩ | ⟨before, after, hin, hb, ho⟩⟩ | ⟨-, ho⟩
      <;> rw [ho] at h
    · cases h
    · cases h; exact .inr (.inr ⟨i, f, before, after, rfl, hf, hin, hb, rfl⟩)
    · exact .inr (.inl ⟨i, rfl, exec_effect h⟩)

/-- A word that decodes to no command is refused while faulted, and raises a fault otherwise (R184). -/
theorem illegalWord_cases (c : Illegal) (s : State) :
    (s.fault = true ∧ illegalWord c s = refuseFaulted s) ∨
    (s.fault = false ∧ ∃ cause, illegalWord c s = raiseFault cause s) := by
  unfold illegalWord
  cases s.fault
  · refine .inr ⟨rfl, ?_⟩
    rw [if_neg Bool.false_ne_true]
    split_ifs <;> exact ⟨_, rfl⟩
  · exact .inl ⟨rfl, rfl⟩

/-- What a step that answers can do, by the event that comes next. -/
theorem step_next {s t : State} (h : step s = .next t) :
    (s.inbox = [] ∧ t = waits s) ∨
    (∃ es, s.inbox = .reset :: es ∧ t = resetBlock { s with inbox := es }) ∨
    (∃ admits writes es, s.inbox = .transport admits writes :: es ∧
      t = transportAct admits writes { s with inbox := es }) ∨
    (∃ s1, Accepts s s1 ∧ perform s1 = .next t) := by
  unfold step at h
  split at h
  case h_1 hin => cases h; exact .inl ⟨hin, rfl⟩
  case h_2 p x es hin => exact .inr (.inr (.inr ⟨_, .one hin, h⟩))
  case h_3 t0 t1 es hin => exact .inr (.inr (.inr ⟨_, .both hin, h⟩))
  case h_4 es hin => cases h; exact .inr (.inl ⟨es, hin, rfl⟩)
  case h_5 admits ws es hin => cases h; exact .inr (.inr (.inl ⟨admits, ws, es, hin, rfl⟩))

end Sys2Proof.Machine
end

section
/-!
PROOFS. The invariant of 10_state.md R42: what each update of the state keeps of it, and that every step keeps it.
-/

namespace Sys2Proof.Safety
open Sys2Proof.Machine

namespace StateInv

variable {s : State}

/-! ## What the invariant says of a state without a section -/

/-- Outside an invocation no section is held (R42 a). -/
theorem idle_of_inactive (h : StateInv s) (hi : s.invActive = false) : s.curState = .idle :=
  (Cursor.ne_acquired_iff _).mp fun ha => absurd (h.acquired_active ha) (by simp [hi])

/-- An invocation is active only once the block is configured (R42 e). -/
theorem inactive_of_unlocked (h : StateInv s) (hl : s.cfgLocked = false) : s.invActive = false :=
  Bool.eq_false_of_not_eq_true fun ha => absurd (h.active_locked ha).1 (by simp [hl])

/-- In Idle the area file holds no value (R33). -/
theorem areas_of_idle (h : StateInv s) (hi : s.curState = .idle) : s.areas = [] :=
  h.areas_absent (.inl hi)

/-! ## The shared operations -/

theorem answer (h : StateInv s) (st : Status) : StateInv (answer st s) :=
  { h with }

theorem result (h : StateInv s) (res0 : Bus) : StateInv (result res0 s) :=
  { h with }

theorem code_ne_zero (c : Cause) : c.code ≠ 0 := by
  cases c <;> decide

/-- No cause has the code 0 (R182), so a raised fault keeps FAULT and FAULT_CAUSE together. -/
theorem raiseFault (h : StateInv s) (c : Cause) : StateInv (raiseFault c s) :=
  { h with fault_cause := iff_of_true rfl (code_ne_zero c) }

/-- Bytes written inside the space keep memory canonical and inside the space (R50). -/
theorem writeAll (h : StateInv s) {cs : List Host.Cell} (hcs : ∀ c ∈ cs, c.1 < 2 ^ s.params.addrW) :
    StateInv { s with mem := Memory.writeAll s.mem cs } :=
  { h with
    mem_wf := Memory.writeAll_wf cs h.mem_wf
    mem_space := fun c hc => (Memory.mem_writeAll cs hc).elim (h.mem_space c) (hcs c) }

/-- A window that may be accessed lies in the space (R55), so writing it keeps the invariant. -/
theorem writeWindow (h : StateInv s) {xs : List Int} (hxs : ∀ x ∈ xs, s.accessible x = true) (bs : List Byte) :
    StateInv (s.writeWindow xs bs) :=
  h.writeAll fun c hc => by
    obtain ⟨x, hx, hxc⟩ := List.mem_map.mp (List.of_mem_zip hc).1
    obtain ⟨⟨hnonneg, hlt⟩, -⟩ : (0 ≤ x ∧ x < 2 ^ s.params.addrW) ∧ s.admits x.toNat = true := by
      simpa [State.accessible] using hxs x hx
    rw [← hxc, Int.toNat_lt hnonneg]
    exact_mod_cast hlt

theorem transportAct (h : StateInv s) (admits : List Region) (writes : List Host.Cell) :
    StateInv (transportAct admits writes s) :=
  { h.writeAll (cs := s.inSpace writes) fun c hc => by simpa using (List.mem_filter.mp hc).2 with }

/-- A release leaves Idle, nothing granted and no areas (R145), whatever the transport answers. -/
theorem release (h : StateInv s) (st : Answer) : StateInv (release st s) :=
  { h with
    acquired_active := nofun
    idle_granted := fun _ => rfl
    granted_le := nofun
    broken_idle := fun _ => rfl
    areas_held := nofun
    areas_absent := fun _ => rfl
    areas_base := nofun }

theorem answerCode_ne_three (st : Answer) : st.status.code ≠ 3 := by
  cases st <;> decide

theorem implicitCommit (h : StateInv s) : StateInv (implicitCommit s) := by
  rcases implicitCommit_cases s with ⟨-, he⟩ | ⟨-, -, he⟩ | ⟨-, -, he⟩ <;> rw [he]
  · exact h
  · exact h.release _
  · exact { h.release s.txn.commit with discard_last := answerCode_ne_three _ }

/-- The reset values satisfy the invariant whatever the parameters; memory and parameters stay (R45, R200). -/
theorem resetBlock (h : StateInv s) : StateInv (resetBlock s) :=
  { acquired_active := nofun
    idle_granted := fun _ => rfl
    granted_le := nofun
    broken_idle := nofun
    active_locked := nofun
    fault_cause := iff_of_false nofun fun hne => hne rfl
    locked_channels := nofun
    unlocked_channels := fun _ => rfl
    areas_held := nofun
    areas_absent := fun _ => rfl
    areas_base := nofun
    mem_wf := h.mem_wf
    mem_space := h.mem_space
    discard_last := nofun
    params_ok := h.params_ok }

/-! ## The effects of a command -/

/-- Every base of a taken section fits in ADDR_W bits (R32). -/
theorem takeSection_base {g : Grant} {n : Nat} {a : Area} (ha : a ∈ (takeSection g n s).areas) :
    a.base < 2 ^ s.params.addrW :=
  grantedAreas_base ha

/-- A section of `a` frames within the window, taken in Idle on a stream that is not broken. -/
theorem acquired (h : StateInv s) (g : Grant) {a : Nat} (active : s.invActive = true) (idle : s.curState = .idle)
    (unbroken : s.broken = false) (ha : a ≤ s.fcMax.toNat) : StateInv (acquired g a s) := by
  have not_broken : s.broken ≠ true := by simp [unbroken]
  rcases acquired_cases g a s with ⟨-, he⟩ | ⟨hne, he⟩ <;> rw [he]
  · exact { h with
      acquired_active := fun _ => active
      idle_granted := nofun
      granted_le := fun _ => Nat.zero_le _
      broken_idle := fun hb => absurd hb not_broken
      areas_held := fun _ hg => absurd rfl hg
      areas_absent := fun _ => h.areas_of_idle idle }
  · have ha32 : (BitVec.ofNat 32 a).toNat = a := by
      rw [BitVec.toNat_ofNat, Nat.mod_eq_of_lt (by omega)]
    exact { h with
      acquired_active := fun _ => active
      idle_granted := nofun
      granted_le := fun _ => ha32.le.trans ha
      broken_idle := fun hb => absurd hb not_broken
      areas_held := fun _ _ => length_grantedAreas _ g
      areas_absent := fun hor => hor.elim nofun fun hg =>
        absurd (ha32.symm.trans (congrArg BitVec.toNat hg)) hne
      areas_base := fun _ => takeSection_base
      mem_wf := (takeSection_canonical g a h.mem_wf h.mem_space).1
      mem_space := (takeSection_canonical g a h.mem_wf h.mem_space).2 }

/-- Every effect of a command keeps the invariant. -/
theorem of_effect {c : Command} {t : State} (h : StateInv s) (he : Effect s c t) : StateInv t := by
  cases he with
  | responds => exact { h with }
  | faults _ cause => exact h.raiseFault cause
  | grants ready unbroken =>
    exact (h.acquired _ ready.active ready.idle unbroken
      ((grantedFrames_le _ _).1.trans ready.le_max)).result _
  | breaks ready => exact { h with broken_idle := fun _ => ready.idle }
  | writes r a bytes draws ready area accessible => exact { h.writeWindow accessible bytes with }
  | releases => exact (h.release _).answer _
  | configures f ready unlocked format one_le le_max =>
    have inactive := h.inactive_of_unlocked unlocked
    have idle := h.idle_of_inactive inactive
    exact { h with
      active_locked := fun ha => absurd (ha.symm.trans inactive) nofun
      locked_channels := fun _ => ⟨one_le, le_max⟩
      unlocked_channels := nofun
      areas_held := fun ha => absurd (ha.symm.trans idle) nofun }
  | starts ready locked inactive unbroken min_le max_lt =>
    have areas := h.areas_of_idle (h.idle_of_inactive inactive)
    have window : (s.txn.arg0.setWidth 32).toNat ≤ (s.txn.arg1.setWidth 32).toNat := by
      rw [BitVec.toNat_setWidth, BitVec.toNat_setWidth, Nat.mod_eq_of_lt (min_le.trans_lt max_lt),
        Nat.mod_eq_of_lt max_lt]
      exact min_le
    exact { h with
      acquired_active := nofun
      idle_granted := fun _ => rfl
      granted_le := nofun
      broken_idle := fun _ => rfl
      active_locked := fun _ => ⟨locked, window⟩
      areas_held := nofun
      areas_absent := fun _ => areas }
  | ends =>
    have hc := h.implicitCommit
    have idle := implicitCommit_idle s
    exact { hc with
      acquired_active := fun ha => absurd (ha.symm.trans idle) nofun
      active_locked := nofun }

/-! ## Steps -/

theorem illegalWord (h : StateInv s) (c : Illegal) : StateInv (illegalWord c s) := by
  rcases illegalWord_cases c s with ⟨-, he⟩ | ⟨-, cause, he⟩ <;> rw [he]
  · exact h.answer _
  · exact h.raiseFault cause

theorem of_accepts {t : State} (h : StateInv s) (ha : Accepts s t) : StateInv t := by
  cases ha with
  | one => exact { h with }
  | both => unfold acceptBoth; split <;> exact { h with }

theorem of_perform {t : State} (h : StateInv s) (hp : perform s = .next t) : StateInv t := by
  rcases perform_next hp with ⟨c, -, rfl⟩ | ⟨i, -, he⟩ | ⟨i, f, before, after, -, -, -, -, rfl⟩
  · exact h.illegalWord c
  · exact h.of_effect he
  · exact resetBlock { h with }

theorem of_step {t : State} (h : StateInv s) (hs : step s = .next t) : StateInv t := by
  rcases step_next hs with ⟨-, rfl⟩ | ⟨es, -, rfl⟩ | ⟨admits, writes, es, -, rfl⟩ | ⟨s1, ha, hp⟩
  · exact { h with }
  · exact resetBlock { h with }
  · exact { h.transportAct admits writes with }
  · exact (h.of_accepts ha).of_perform hp

end StateInv

end Sys2Proof.Safety

namespace Sys2Proof
open Machine Safety

/-- Settles O13: a step waits, resets, lets the transport act or performs an accepted transaction, and each of these, by
the effects a command can have, keeps the invariant. -/
theorem everyStepKeepsTheInvariant : Obligations.EveryStepKeepsTheInvariant :=
  fun _ _ h hs => h.of_step hs

/-- Settles O14: the reset values satisfy the invariant with the parameters of `State.reset`, and the cursor is Idle. -/
theorem theInvariantHoldsAtReset : Obligations.TheInvariantHoldsAtReset := by
  refine ⟨by constructor <;> decide, ?_⟩
  intro held
  exact absurd held (by decide)

end Sys2Proof
end

section
/-!
PROOFS. What no command writes (10_state.md R26, R29, R36): the configuration once locked, BROKEN back to 0, and the
window during an invocation.
-/

namespace Sys2Proof.Machine
open Sys2Proof.Safety

/-- The configuration and the window are as before, and a broken stream stays broken. -/
structure KeepsSettings (s t : State) : Prop where
  cfgFormat : t.cfgFormat = s.cfgFormat
  cfgLocked : t.cfgLocked = s.cfgLocked
  channels : t.channels = s.channels
  fcMin : t.fcMin = s.fcMin
  fcMax : t.fcMax = s.fcMax
  broken : s.broken = true → t.broken = true

theorem acquired_keepsSettings (g : Grant) (a : Nat) (s : State) : KeepsSettings s (acquired g a s) := by
  rcases acquired_cases g a s with ⟨-, he⟩ | ⟨-, he⟩ <;> rw [he] <;> exact ⟨rfl, rfl, rfl, rfl, rfl, id⟩

theorem release_keepsSettings (st : Answer) (s : State) : KeepsSettings s (release st s) :=
  ⟨rfl, rfl, rfl, rfl, rfl, fun hb => by simp [hb]⟩

theorem implicitCommit_keepsSettings (s : State) : KeepsSettings s (implicitCommit s) := by
  rcases implicitCommit_cases s with ⟨-, he⟩ | ⟨-, -, he⟩ | ⟨-, -, he⟩ <;> rw [he]
  · exact ⟨rfl, rfl, rfl, rfl, rfl, id⟩
  · exact release_keepsSettings _ s
  · exact { release_keepsSettings s.txn.commit s with }

/-- No command but a CONFIGURE before the lock and an INV_START outside an invocation writes a setting; these two keep
what the other writes, and BROKEN. -/
theorem Effect.settings {s t : State} {c : Command} (he : Effect s c t) :
    KeepsSettings s t ∨
    (c = .configure ∧ s.cfgLocked = false ∧ t.fcMin = s.fcMin ∧ t.fcMax = s.fcMax ∧ t.broken = s.broken) ∨
    (c = .invStart ∧ s.invActive = false ∧ t.cfgFormat = s.cfgFormat ∧ t.cfgLocked = s.cfgLocked ∧
      t.channels = s.channels ∧ t.broken = s.broken) := by
  cases he with
  | configures _ _ unlocked => exact .inr (.inl ⟨rfl, unlocked, rfl, rfl, rfl⟩)
  | starts _ _ inactive => exact .inr (.inr ⟨rfl, inactive, rfl, rfl, rfl, rfl⟩)
  | grants => exact .inl { acquired_keepsSettings _ _ s with }
  | breaks => exact .inl ⟨rfl, rfl, rfl, rfl, rfl, fun _ => rfl⟩
  | releases => exact .inl { release_keepsSettings _ s with }
  | ends => exact .inl { implicitCommit_keepsSettings s with }
  | _ => exact .inl ⟨rfl, rfl, rfl, rfl, rfl, id⟩

/-! ## A fault on a port a command is legal on -/

theorem raiseFault_eq_faulted (c : Cause) (s : State) : raiseFault c s = faulted s c := rfl

/-- A command that is not refused and stands on a legal port comes to its own checks. -/
theorem gated_of_legal {legal : Port → Bool} (rule : State → Host.Outcome State Fault Refusal) {s : State}
    (hf : s.fault = false) (hp : legal s.port = true) : gated legal rule s = rule s := by
  simp [gated, hf, hp]

end Sys2Proof.Machine

namespace Sys2Proof
open Machine Safety

/-- Settles O17: the one effect that writes the configuration is a CONFIGURE's before the lock, and CONFIGURE's first
check is the lock. -/
theorem theConfigurationIsImmutableOnceLocked : Obligations.TheConfigurationIsImmutableOnceLocked := by
  constructor
  · intro i s t locked h
    rcases (exec_effect h).settings with k | ⟨-, unlocked, -⟩ | ⟨-, -, hformat, hlocked, hchannels, -⟩
    · exact ⟨k.cfgFormat, k.channels, k.cfgLocked.trans locked⟩
    · exact absurd (locked.symm.trans unlocked) nofun
    · exact ⟨hformat, hchannels, hlocked.trans locked⟩
  · intro s ready locked
    have hgate : exec .configure s = checked (configureChecks s) configureRule s :=
      gated_of_legal _ ready.no_fault ((lifecyclePort_iff _).mpr ready.on_p1)
    rw [hgate, configureChecks, checked_cons, if_pos locked, raiseFault_eq_faulted]

/-- Settles O18: every effect keeps a broken stream broken, and the one that writes the window is an INV_START's outside
an invocation. -/
theorem brokenIsStickyAndTheWindowConstant : Obligations.BrokenIsStickyAndTheWindowConstant := by
  intro i s t h
  rcases (exec_effect h).settings with k | ⟨-, -, hmin, hmax, hbroken⟩ | ⟨hc, inactive, -, -, -, hbroken⟩
  · exact ⟨k.broken, fun _ => ⟨k.fcMin, k.fcMax⟩⟩
  · exact ⟨hbroken.trans, fun _ => ⟨hmin, hmax⟩⟩
  · refine ⟨hbroken.trans, ?_⟩
    rintro (active | hi)
    · exact absurd (active.symm.trans inactive) nofun
    · have : i = .invStart := (instrOf_command i).symm.trans (congrArg instrOf hc)
      exact absurd this hi

end Sys2Proof
end

section
/-!
PROOFS. The footprint of a section (20_memory.md R53): the test by division finds exactly the addresses of the rule.
-/

namespace Sys2Proof.Machine
open Sys2Proof.Safety

/-- The multiples of a stride by fewer than `n` frames, found by division, with stride 0 apart. -/
theorem isFrameMultiple_iff (d stride : Int) (n : Nat) :
    (if stride = 0 then decide (0 < n) && decide (d = 0)
      else decide (d % stride = 0) && decide (0 ≤ d / stride) && decide (d / stride < n)) = true ↔
      ∃ f < n, d = (f : Nat) * stride := by
  by_cases h0 : stride = 0
  · subst h0
    simp only [if_true, Bool.and_eq_true, decide_eq_true_eq, mul_zero]
    exact ⟨fun ⟨hn, hd⟩ => ⟨0, hn, hd⟩, fun ⟨f, hf, hd⟩ => ⟨by omega, hd⟩⟩
  · simp only [if_neg h0, Bool.and_eq_true, decide_eq_true_eq]
    constructor
    · rintro ⟨⟨hmod, hnonneg⟩, hlt⟩
      refine ⟨(d / stride).toNat, by omega, ?_⟩
      rw [Int.toNat_of_nonneg hnonneg]
      exact (Int.ediv_mul_cancel (Int.dvd_of_emod_eq_zero hmod)).symm
    · rintro ⟨f, hf, rfl⟩
      rw [Int.mul_emod_left, Int.mul_ediv_cancel _ h0]
      exact ⟨⟨rfl, by omega⟩, by omega⟩

/-- `Area.holds` is R53 for one channel. -/
theorem Area.holds_iff (a : Area) (granted slotWidth x : Nat) :
    a.holds granted slotWidth x = true ↔
      ∃ f < granted, ∃ k < slotWidth, (x : Int) = a.slotAddress f + (k : Nat) := by
  simp only [Area.holds, List.any_eq_true, List.mem_range, isFrameMultiple_iff, Area.slotAddress]
  constructor
  · rintro ⟨k, hk, f, hf, hd⟩
    exact ⟨f, hf, k, hk, by omega⟩
  · rintro ⟨f, hf, k, hk, hx⟩
    exact ⟨k, hk, f, hf, by omega⟩

/-- `inFootprint` is R53 for all channels. -/
theorem inFootprint_iff (areas : List Area) (granted slotWidth x : Nat) :
    inFootprint areas granted slotWidth x = true ↔ FootprintByte areas granted slotWidth x := by
  simp only [inFootprint, List.any_eq_true, Area.holds_iff, FootprintByte]

end Sys2Proof.Machine

namespace Sys2Proof
open Machine Safety

theorem Rep.is24_iff (r : Rep) : r.is24 = true ↔ r = .u24 ∨ r = .i24 := by
  cases r <;> decide

theorem Format.is24_be_iff (f : Format) : (f.rep.is24 && f.be) = true ↔ f = .u24be ∨ f = .i24be := by
  cases f <;> decide

/-- The slot width (R27). -/
theorem Format.slotWidth_eq (f : Format) :
    f.slotWidth = if f.rep = .u24 ∨ f.rep = .i24 then 4 else f.rep.rawWidth := by
  simp only [Format.slotWidth, Rep.is24_iff]

/-- The slot offset (R27). -/
theorem Format.slotOffset_eq (f : Format) (p : Params) :
    f.slotOffset p = if f = .u24be ∨ f = .i24be then p.s24BeOffset else 0 := by
  simp only [Format.slotOffset, Format.is24_be_iff]

/-- Settles O53: the slot's width and offset by the eighteen formats, and the footprint by dividing the distance from
the area's base by its stride. -/
theorem theFootprintTestIsTheRulesSet : Obligations.TheFootprintTestIsTheRulesSet := by
  refine ⟨Format.slotWidth_eq, Format.slotOffset_eq, rfl, rfl, fun s a f => ⟨rfl, ?_, rfl⟩, inFootprint_iff⟩
  rw [State.windowAddress, Area.slotAddress, Format.slotOffset_eq, Nat.cast_ite, Nat.cast_zero]

end Sys2Proof
end

section
/-!
PROOFS. The register map (10_state.md R40) and the reset values (R45): what RDREG reads, and what the reset event
leaves.
-/

namespace Sys2Proof.Machine
open Sys2Proof.Safety

/-! ## Fields of a register -/

theorem toNat_bitAt (b : Bool) {k : Nat} (hk : k < 64) : (bitAt b k).toNat = 2 ^ k * b.toNat := by
  have hpow : 2 ^ k < 2 ^ 64 := Nat.pow_lt_pow_right (by norm_num) hk
  cases b
  · simp [bitAt]
  · simpa [bitAt, Nat.shiftLeft_eq] using hpow

/-- A one-bit field above the other fields adds its weight. -/
theorem toNat_or_bitAt {x : Bus} (b : Bool) {k : Nat} (hk : k < 64) (hx : x.toNat < 2 ^ k) :
    (x ||| bitAt b k).toNat = x.toNat + 2 ^ k * b.toNat := by
  rw [BitVec.toNat_or, toNat_bitAt b hk, Nat.lor_comm, ← Nat.two_pow_add_eq_or_of_lt hx, Nat.add_comm]

/-- A field at the bottom of a register reads as its number. -/
theorem toNat_field {w : Nat} (x : BitVec w) (hw : w ≤ 64) : (x.setWidth 64).toNat = x.toNat := by
  have hpow : 2 ^ w ≤ 2 ^ 64 := Nat.pow_le_pow_right (by norm_num) hw
  rw [BitVec.toNat_setWidth, Nat.mod_eq_of_lt (x.isLt.trans_le hpow)]

theorem portBit_eq (p : Port) : portBit p = decide (p = .p1) := by
  cases p <;> rfl

/-- Register 0: CFG_FORMAT in bits 4 to 0, CFG_LOCKED in bit 8. -/
theorem toNat_regValue_config {s : State} {n : Bus} (hn : n.toNat = 0) :
    (regValue s n).toNat = s.cfgFormat.code.toNat + 2 ^ 8 * s.cfgLocked.toNat := by
  have hfield := toNat_field s.cfgFormat.code (by norm_num)
  have hlt := s.cfgFormat.code.isLt
  simp only [regValue, hn]
  rw [toNat_or_bitAt _ (by norm_num) (by omega), hfield]

/-- Register 2: the five one-bit conditions in bits 0 to 4. -/
theorem toNat_regValue_status {s : State} {n : Bus} (hn : n.toNat = 2) :
    (regValue s n).toNat = s.invActive.toNat + 2 * (decide (s.curState = .acquired)).toNat +
      4 * s.broken.toNat + 8 * s.fault.toNat + 16 * s.shortfall.toNat := by
  have h0 := toNat_bitAt s.invActive (k := 0) (by norm_num)
  have b0 := s.invActive.toNat_lt
  have b1 := (decide (s.curState = .acquired)).toNat_lt
  have b2 := s.broken.toNat_lt
  have b3 := s.fault.toNat_lt
  simp only [regValue, hn]
  have h1 := toNat_or_bitAt (x := bitAt s.invActive 0) (decide (s.curState = .acquired)) (k := 1) (by norm_num)
    (by omega)
  have h2 := toNat_or_bitAt s.broken (k := 2) (by norm_num) (show _ < _ from by rw [h1]; omega)
  have h3 := toNat_or_bitAt s.fault (k := 3) (by norm_num) (show _ < _ from by rw [h2]; omega)
  have h4 := toNat_or_bitAt s.shortfall (k := 4) (by norm_num) (show _ < _ from by rw [h3]; omega)
  omega

/-- Register 7: FAULT_CAUSE in bits 7 to 0, FAULT_PORT in bit 8. -/
theorem toNat_regValue_fault {s : State} {n : Bus} (hn : n.toNat = 7) :
    (regValue s n).toNat = s.faultCause.toNat + 2 ^ 8 * (decide (s.faultPort = .p1)).toNat := by
  have hfield := toNat_field s.faultCause (by norm_num)
  have hlt := s.faultCause.isLt
  simp only [regValue, hn]
  rw [toNat_or_bitAt _ (by norm_num) (by omega), hfield, portBit_eq]

/-- The numbers from 0x0B on are reserved and read as 0, at their full 64 bits. -/
theorem regValue_reserved {s : State} {n : Bus} (hn : 11 ≤ n.toNat) : regValue s n = 0 := by
  unfold regValue
  split
  case h_12 => rfl
  all_goals omega

end Sys2Proof.Machine

namespace Sys2Proof
open Machine Safety

/-- Settles O59: RDREG has no check to fail, and each register's fields do not overlap. -/
theorem rdregReadsTheRegisterMap : Obligations.RdregReadsTheRegisterMap := by
  intro s
  refine ⟨regValue s s.txn.arg0, rfl, toNat_regValue_config, ?_, toNat_regValue_status, ?_, ?_, ?_, ?_,
    toNat_regValue_fault, ?_, ?_, ?_, regValue_reserved⟩ <;> intro hn <;> simp only [regValue, hn]
  all_goals exact toNat_field _ (by norm_num)

/-- Settles O60: `resetBlock` gives every register its value in `State.reset` and leaves memory, and with it every byte
that is read. -/
theorem theResetEventRestoresEveryRegister : Obligations.TheResetEventRestoresEveryRegister := by
  rintro s t es hin rfl
  have hstep : step s = .next (resetBlock { s with inbox := es }) := by simp only [step, hin]
  exact ⟨hstep, rfl, rfl, rfl, rfl, fun _ => rfl, rfl, rfl, rfl, rfl, rfl, rfl, rfl, rfl, rfl, rfl, rfl, rfl, rfl,
    rfl, rfl, rfl, rfl, rfl⟩

end Sys2Proof
end

section
/-!
PROOFS. The held footprint under a dutiful transport (20_memory.md R54, R63; 70_reset_and_hazards.md R211): what each
effect of a command leaves of it, and that every step keeps it admitted.
-/

namespace Sys2Proof

/-- A command is that of one instruction alone. -/
theorem eq_instrOf_of_command {i : Instr} {c : Command} (h : i.command = c) : i = instrOf c :=
  (instrOf_command i).symm.trans (congrArg instrOf h)

end Sys2Proof

namespace Sys2Proof.Safety
open Sys2Proof.Machine

/-- Fewer granted frames make a smaller footprint. -/
theorem FootprintByte.mono {areas : List Area} {n m w : Nat} {x : Int} (hx : FootprintByte areas n w x) (h : n ≤ m) :
    FootprintByte areas m w x := by
  obtain ⟨a, ha, f, hf, hk⟩ := hx
  exact ⟨a, ha, f, hf.trans_le h, hk⟩

/-- An accepted transaction keeps the duty of its grant where it stands on P0, the one port ACQUIRE is legal on. -/
theorem NextDutiful.of_accepts {s t : State} (hd : NextDutiful s) (ha : Accepts s t) (hp : t.port = .p0) :
    GrantDutiful t t.txn := by
  unfold NextDutiful at hd
  cases ha with
  | one presented =>
    rw [presented] at hd
    exact hd
  | both presented =>
    rw [presented] at hd
    unfold acceptBoth at hp ⊢
    split at hp
    case isTrue first => rw [if_pos first]; exact hd
    case isFalse => cases hp

namespace SectionAdmitted

variable {s t : State}

/-- Without a held section there is nothing to admit. -/
theorem of_idle (h : s.curState = .idle) : SectionAdmitted s :=
  fun held => absurd (held.symm.trans h) nofun

/-- A grant whose footprint is admitted by its own answer (R54, R137) takes an admitted section. -/
theorem acquired {g : Grant} {a : Nat}
    (duty : ∀ x, FootprintByte (grantedAreas s g) a s.cfgFormat.slotWidth x →
      { s with admitted := g.admits }.accessible x = true) : SectionAdmitted (acquired g a s) := by
  intro _ x hx
  rcases acquired_cases g a s with ⟨-, he⟩ | ⟨-, he⟩ <;> rw [he] at hx ⊢
  · obtain ⟨_, -, f, hf, -⟩ := hx
    exact absurd hf (Nat.not_lt_zero f)
  · have le : (BitVec.ofNat 32 a).toNat ≤ a := (BitVec.toNat_ofNat a 32).trans_le (Nat.mod_le a _)
    exact duty x (FootprintByte.mono hx le)

/-- What a command does keeps the held footprint admitted: it leaves the section as it is, ends Idle, or takes the
section of a dutiful grant. -/
theorem of_effect {i : Instr} (h : SectionAdmitted s) (inv : StateInv s) (hi : decode s.txn.cmd = .command i)
    (duty : s.port = .p0 → GrantDutiful s s.txn) (he : Effect s i.command t) : SectionAdmitted t := by
  generalize hc : i.command = c at he
  cases he with
  | responds => exact h
  | faults => exact h
  | breaks => exact h
  | writes => exact h
  | grants ready _ ok =>
    obtain rfl := eq_instrOf_of_command hc
    exact acquired (duty ready.on_p0 hi ok)
  | releases => exact of_idle rfl
  | configures _ _ unlocked => exact of_idle (inv.idle_of_inactive (inv.inactive_of_unlocked unlocked))
  | starts => exact of_idle rfl
  | ends => exact of_idle (implicitCommit_idle s)

/-- Accepting a transaction touches no section. -/
theorem of_accepts (h : SectionAdmitted s) (ha : Accepts s t) : SectionAdmitted t := by
  cases ha with
  | one => exact h
  | both => unfold acceptBoth; split <;> exact h

/-- A transaction performed under the duty of its grant keeps the held footprint admitted. -/
theorem of_perform (h : SectionAdmitted s) (inv : StateInv s) (duty : s.port = .p0 → GrantDutiful s s.txn)
    (hp : perform s = .next t) : SectionAdmitted t := by
  rcases perform_next hp with ⟨c, -, rfl⟩ | ⟨i, hi, he⟩ | ⟨_, _, _, _, -, -, -, -, rfl⟩
  · rcases illegalWord_cases c s with ⟨-, he⟩ | ⟨-, cause, he⟩ <;> rw [he] <;> exact h
  · exact h.of_effect inv hi duty he
  · exact of_idle rfl

/-- A dutiful act of the transport admits the held footprint (R63, R211). -/
theorem transportAct {admits : List Region} {writes : List Host.Cell} (hd : LeavesSectionAlone s admits writes) :
    SectionAdmitted (transportAct admits writes s) :=
  fun held x hx => (hd held x hx).2

/-- Under a dutiful transport every step keeps the held footprint admitted. -/
theorem of_step (inv : StateInv s) (h : TransportDutiful s) (hs : step s = .next t) : SectionAdmitted t := by
  have admitted := h.section_admitted
  have next := h.next_dutiful
  rcases step_next hs with ⟨-, rfl⟩ | ⟨es, -, rfl⟩ | ⟨admits, writes, es, hin, rfl⟩ | ⟨s1, ha, hp⟩
  · exact admitted
  · exact of_idle rfl
  · rw [NextDutiful, hin] at next
    exact transportAct (s := { s with inbox := es }) next
  · exact (admitted.of_accepts ha).of_perform (inv.of_accepts ha) (next.of_accepts ha) hp

end SectionAdmitted

/-- An act of the transport leaves every byte as it is that it does not write. -/
theorem readByte_transportAct {admits : List Region} {writes : List Host.Cell} {s : State} {x : Nat}
    (h : ∀ c ∈ writes, c.1 ≠ x) : (transportAct admits writes s).readByte x = s.readByte x := by
  have known : Memory.read (transportAct admits writes s).mem x = Memory.read s.mem x :=
    Memory.read_writeAll_other _ _ _ fun c hc => h c (List.mem_of_mem_filter hc)
  exact congrArg (Option.getD · _) known

end Sys2Proof.Safety

namespace Sys2Proof
open Machine Safety

/-- Settles O15: a step waits, resets, lets the transport act or performs an accepted transaction; of the effects of a
command only a grant takes a section, and its duty is that of the transaction accepted on P0. -/
theorem aDutifulTransportLeavesTheSectionAlone : Obligations.ADutifulTransportLeavesTheSectionAlone := by
  refine fun s t inv duty hs => ⟨.of_step inv duty hs, fun admits writes es hin held x hx => ?_⟩
  have next := duty.next_dutiful
  rw [NextDutiful, hin] at next
  obtain ⟨unwritten, -⟩ := next held x hx
  rw [step, hin] at hs
  cases hs
  exact readByte_transportAct (s := { s with inbox := es }) fun c hc => by exact_mod_cast unwritten c hc

end Sys2Proof
end

section
/-!
PROOFS. What a command and a step do to buffer memory (20_memory.md R50, R57, R62, R64): bytes written by a SET, the
footprint handed over by an ACQUIRE, and otherwise nothing.
-/

namespace Sys2Proof.Machine
open Sys2Proof.Safety

/-- The implicit commit of INV_END touches no byte, and is no acquire point. -/
theorem implicitCommit_memory (s : State) :
    (implicitCommit s).mem = s.mem ∧ (implicitCommit s).epoch = s.epoch := by
  rcases implicitCommit_cases s with ⟨-, he⟩ | ⟨-, -, he⟩ | ⟨-, -, he⟩ <;> rw [he] <;> exact ⟨rfl, rfl⟩

/-- A byte reads as before where the known bytes and the count of acquire points are as before. -/
theorem readByte_congr {s t : State} (hm : t.mem = s.mem) (he : t.epoch = s.epoch) (x : Nat) :
    t.readByte x = s.readByte x := by
  rw [State.readByte, State.readByte, hm, he]

/-- The one write a SET makes, the bytes an ACQUIRE forgets and learns, and the frame of every other command. -/
theorem Effect.memory {s t : State} {c : Command} (he : Effect s c t) :
    (t.mem = s.mem ∧ t.epoch = s.epoch) ∨
    (∃ r cells, c = .set r ∧ t.mem = Memory.writeAll s.mem cells) ∨
    (∃ keep cells, c = .acquire ∧ t.mem = Memory.writeAll (s.mem.filter keep) cells) := by
  cases he with
  | writes r => exact .inr (.inl ⟨r, _, rfl, rfl⟩)
  | grants =>
    rcases acquired_cases s.txn.grant (grantedFrames s.txn.grant s.txn.arg0) s with ⟨-, he⟩ | ⟨-, he⟩ <;> rw [he]
    · exact .inl ⟨rfl, rfl⟩
    · exact .inr (.inr ⟨_, _, rfl, rfl⟩)
  | ends => exact .inl (implicitCommit_memory s)
  | _ => exact .inl ⟨rfl, rfl⟩

/-- Every effect of a command keeps the canonical form. -/
theorem Effect.memory_wf {s t : State} {c : Command} (h : Memory.wf s.mem) (he : Effect s c t) : Memory.wf t.mem := by
  rcases he.memory with ⟨hm, -⟩ | ⟨_, cells, -, hm⟩ | ⟨keep, cells, -, hm⟩ <;> rw [hm]
  · exact h
  · exact Memory.writeAll_wf _ h
  · exact Memory.writeAll_wf _ (Memory.filter_wf _ h)

/-- Accepting a transaction touches no byte. -/
theorem Accepts.mem_eq {s t : State} (ha : Accepts s t) : t.mem = s.mem := by
  cases ha with
  | one => rfl
  | both => unfold acceptBoth; split <;> rfl

/-- A performed transaction keeps the canonical form. -/
theorem perform_memory_wf {s t : State} (h : Memory.wf s.mem) (hp : perform s = .next t) : Memory.wf t.mem := by
  rcases perform_next hp with ⟨c, -, rfl⟩ | ⟨i, -, he⟩ | ⟨_, _, _, _, -, -, -, -, rfl⟩
  · rcases illegalWord_cases c s with ⟨-, he⟩ | ⟨-, cause, he⟩ <;> rw [he] <;> exact h
  · exact he.memory_wf h
  · exact h

end Sys2Proof.Machine

namespace Sys2Proof
open Machine Safety

/-- Settles O16: a run of writes keeps the form, and so does leaving entries out; no step does anything else to the
list. -/
theorem everyStepKeepsMemoryCanonical : Obligations.EveryStepKeepsMemoryCanonical := by
  intro s t h hs
  rcases step_next hs with ⟨-, rfl⟩ | ⟨es, -, rfl⟩ | ⟨admits, writes, es, -, rfl⟩ | ⟨s1, ha, hp⟩
  · exact h
  · exact h
  · exact Memory.writeAll_wf _ h
  · exact perform_memory_wf (ha.mem_eq ▸ h) hp

/-- Settles O19: the two effects that write memory are a SET's and an ACQUIRE's. -/
theorem onlySetAndAcquireChangeMemory : Obligations.OnlySetAndAcquireChangeMemory := by
  intro i s t not_acquire not_set h x
  rcases (exec_effect h).memory with ⟨hm, he⟩ | ⟨r, _, hc, -⟩ | ⟨_, _, hc, -⟩
  · exact readByte_congr hm he x
  · exact absurd hc (not_set r)
  · exact absurd (eq_instrOf_of_command hc) not_acquire

end Sys2Proof
end

section
/-!
PROOFS. ACQUIRE, GET and SET whose checks pass (42_buffer_access.md R132, R139, R142): the command is its rule, and a
sample access is an access of its window.
-/

namespace Sys2Proof
open Machine

/-! ## The sample in its slot (R27, R127) -/

/-- A window lies in its slot: the offset of a 24-bit big-endian sample is at most the slot's spare byte (R27). -/
theorem Format.slotOffset_add_rawWidth_le (f : Format) {p : Params} (hp : p.s24BeOffset ≤ 1) :
    f.slotOffset p + f.rep.rawWidth ≤ f.slotWidth := by
  rw [Format.slotOffset_eq]
  cases f <;> simp [Format.slotWidth, Format.rep, Rep.is24, Rep.rawWidth, Rep.width, hp]

/-- A window encoded for a representation decodes to the pattern it came from (R127). -/
theorem rawDecode_rawEncode (r : Rep) (be : Bool) {p : Nat} (h : p < 2 ^ r.width) :
    rawDecode r be (rawEncode r be p) = p := by
  have hle : leNat (leBytes r.rawWidth p) = p := by
    rw [leNat_leBytes, ← r.width_eq.1, Nat.mod_eq_of_lt h]
  cases be <;> simp [rawDecode, rawEncode, hle, Nat.mod_eq_of_lt h]

end Sys2Proof

namespace Sys2Proof.Machine
open Sys2Proof.Safety

/-! ## Behind the checks -/

/-- A command on a legal port none of whose checks applies is its rule. -/
theorem gated_checked_eq_rule {legal : Port → Bool} {checks : State → List (Bool × Cause)}
    (rule : State → Host.Outcome State Fault Refusal) {s : State} (hf : s.fault = false) (hp : legal s.port = true)
    (hc : ∀ x ∈ checks s, x.1 = false) : gated legal (fun s => checked (checks s) rule s) s = rule s := by
  rw [gated_of_legal _ hf hp]
  rcases checked_cases (checks s) rule s with ⟨-, he⟩ | ⟨before, c, after, hcs, -, -⟩
  · exact he
  · have : (true, c) ∈ checks s := by simp [hcs]
    exact absurd (hc _ this) nofun

theorem acquireChecks_of_ready {s : State} (h : AcquireReady s) : ∀ x ∈ acquireChecks s, x.1 = false := by
  simp [acquireChecks, h.active, h.min_le, h.le_max, h.idle]

theorem sampleChecks_of_ready {s : State} (h : SampleReady s) : ∀ x ∈ sampleChecks s, x.1 = false := by
  simp [sampleChecks, h.active, h.held, h.channel, h.frame]

theorem execAcquire_of_ready {s : State} (h : AcquireReady s) : exec .acquire s = acquireRule s :=
  gated_checked_eq_rule acquireRule h.no_fault ((callbackPort_iff _).mpr h.on_p0) (acquireChecks_of_ready h)

theorem execGet_of_ready {s : State} (r : Rep) (h : SampleReady s) : exec (instrOf (.get r)) s = getRule r s :=
  (exec_get r s).trans
    (gated_checked_eq_rule (getRule r) h.no_fault ((callbackPort_iff _).mpr h.on_p0) (sampleChecks_of_ready h))

theorem execSet_of_ready {s : State} (r : Rep) (h : SampleReady s) : exec (instrOf (.set r)) s = setRule r s :=
  (exec_set r s).trans
    (gated_checked_eq_rule (setRule r) h.no_fault ((callbackPort_iff _).mpr h.on_p0) (sampleChecks_of_ready h))

/-- A GET or SET whose checks pass accesses its window, and an accessed window gives a response. -/
theorem execSample_of_ready {r : Rep} {i : Instr} {s : State} (hi : i = instrOf (.get r) ∨ i = instrOf (.set r))
    (h : SampleReady s) :
    ∃ access, exec i s = withWindow s access ∧ ∀ xs, ∃ t, access xs = .next t ∧ t.reply ≠ none := by
  rcases hi with rfl | rfl
  · exact ⟨_, execGet_of_ready r h, fun xs => ⟨_, rfl, nofun⟩⟩
  · exact ⟨_, execSet_of_ready r h, fun xs => ⟨_, rfl, nofun⟩⟩

/-! ## The acquire point (R62) -/

/-- An ACQUIRE that the transport answers OK on an unbroken stream takes what is granted. -/
theorem acquireRule_ok {s : State} (unbroken : s.broken = false) (ok : s.txn.grant.status = .ok) :
    acquireRule s = .next (result (BitVec.ofNat 64 (grantedFrames s.txn.grant s.txn.arg0))
      (acquired s.txn.grant (grantedFrames s.txn.grant s.txn.arg0) s)) := by
  simp [acquireRule, unbroken, ok]

/-- An address the answer makes no byte known for is forgotten in the new footprint and kept outside it. -/
theorem read_takeSection {g : Grant} {x : Nat} (a : Nat) (s : State) (h : ∀ c ∈ g.bytes, c.1 ≠ x) :
    Memory.read (takeSection g a s).mem x =
      if inFootprint (grantedAreas s g) a s.cfgFormat.slotWidth x then none else Memory.read s.mem x := by
  have known : Memory.read (takeSection g a s).mem x =
      Memory.read (s.mem.filter fun c => !inFootprint (grantedAreas s g) a s.cfgFormat.slotWidth c.1) x :=
    Memory.read_writeAll_other _ _ _ fun c hc => h c (List.mem_of_mem_filter hc)
  rw [known, Memory.read_filter fun k => !inFootprint (grantedAreas s g) a s.cfgFormat.slotWidth k]
  cases inFootprint (grantedAreas s g) a s.cfgFormat.slotWidth x <;> rfl

/-! ## Windows -/

/-- An address below 0, at or above 2^ADDR_W, or not admitted may not be accessed (R55). -/
theorem State.accessible_eq_false {s : State} {x : Int}
    (h : x < 0 ∨ 2 ^ s.params.addrW ≤ x ∨ s.admits x.toNat = false) : s.accessible x = false := by
  rcases h with h | h | h <;> simp [State.accessible, h]

theorem State.nonneg_of_accessible {s : State} {x : Int} (h : s.accessible x = true) : 0 ≤ x := by
  by_contra hx
  rw [State.accessible_eq_false (.inl (by omega))] at h
  cases h

theorem getElem_readWindow (s : State) (xs : List Int) (n : Nat) (hn : n < (s.readWindow xs).length) :
    (s.readWindow xs)[n] = s.readByte (xs[n]'(by simpa [State.readWindow] using hn)).toNat := by
  simp [State.readWindow]

/-- The bytes of a window, written one by one to distinct addresses, read back as they are. -/
theorem readWindow_writeWindow (s : State) {xs : List Int} {bs : List Byte} (hlen : xs.length = bs.length)
    (hnodup : (xs.map Int.toNat).Nodup) : (s.writeWindow xs bs).readWindow xs = bs := by
  have hkeys : (((xs.map Int.toNat).zip bs).map Prod.fst).Nodup := by
    rwa [List.map_fst_zip (by simp [hlen])]
  refine List.ext_getElem (by simp [State.readWindow, hlen]) fun n hn hb => ?_
  have hx : n < xs.length := hlen ▸ hb
  have hcell : (xs[n].toNat, bs[n]) ∈ (xs.map Int.toNat).zip bs :=
    List.mem_iff_getElem.mpr ⟨n, by simp [hx, hb], by simp⟩
  have hread : Memory.read (s.writeWindow xs bs).mem xs[n].toNat = some bs[n] :=
    Memory.read_writeAll_mem _ _ hkeys hcell
  rw [getElem_readWindow, State.readByte, hread, Option.getD_some]

/-- An accessible window has distinct addresses, also as natural numbers. -/
theorem nodup_windowAddresses {s : State} {a : Area} {f : Nat}
    (h : ∀ x ∈ s.windowAddresses a f, s.accessible x = true) : ((s.windowAddresses a f).map Int.toNat).Nodup := by
  have hnodup : (s.windowAddresses a f).Nodup :=
    List.nodup_range.map fun i j hij => by simpa using hij
  refine hnodup.map_on fun x hx y hy hxy => ?_
  rw [← Int.toNat_of_nonneg (State.nonneg_of_accessible (h x hx)), hxy,
    Int.toNat_of_nonneg (State.nonneg_of_accessible (h y hy))]

/-- GET of an accessible window answers its decoded and converted bytes (R139). -/
theorem getRule_of_accessible {s : State} {a : Area} {w : Nat} (r : Rep) (ha : s.areas[s.txn.arg0.toNat]? = some a)
    (hx : ∀ x ∈ s.windowAddresses a s.txn.arg1.toNat, s.accessible x = true)
    (hw : w = rawDecode s.cfgFormat.rep s.cfgFormat.be (s.readWindow (s.windowAddresses a s.txn.arg1.toNat))) :
    getRule r s = .next (result (bus r (conv s.cfgFormat.rep r w s.draws))
      { s with draws := s.draws + convDraws s.cfgFormat.rep r w }) := by
  rw [getRule, withWindow_accessible _ ha hx, hw]

/-- What a SET that answers does (R142): its window is accessible and then holds the converted sample's bytes, and
nothing but memory, the response and the count of draws is written. -/
theorem setRule_next {r : Rep} {s t : State} (h : setRule r s = .next t) :
    ∃ a m draws, s.areas[s.txn.arg0.toNat]? = some a ∧
      (∀ x ∈ s.windowAddresses a s.txn.arg1.toNat, s.accessible x = true) ∧
      { s with mem := m }.readWindow (s.windowAddresses a s.txn.arg1.toNat) =
        rawEncode s.cfgFormat.rep s.cfgFormat.be (conv r s.cfgFormat.rep (unbus r s.txn.arg2) s.draws) ∧
      t = { s with mem := m, reply := statusReply s .ok, draws := draws } := by
  obtain ⟨a, ha, accessible, hnext⟩ := withWindow_next h
  cases hnext
  exact ⟨a, _, _, ha, accessible, readWindow_writeWindow s (by simp) (nodup_windowAddresses accessible), rfl⟩

/-- The window of a granted frame lies in the footprint (R53). -/
theorem footprintByte_of_mem_windowAddresses {s : State} {a : Area} {f granted : Nat} {x : Int}
    (hp : s.params.s24BeOffset ≤ 1) (ha : a ∈ s.areas) (hf : f < granted) (hx : x ∈ s.windowAddresses a f) :
    FootprintByte s.areas granted s.cfgFormat.slotWidth x := by
  obtain ⟨i, hi, rfl⟩ := mem_windowAddresses.mp hx
  have hslot := Format.slotOffset_add_rawWidth_le s.cfgFormat hp
  refine ⟨a, ha, f, hf, s.cfgFormat.slotOffset s.params + i, by omega, ?_⟩
  rw [State.windowAddress]
  push_cast
  ring

end Sys2Proof.Machine

namespace Sys2Proof
open Machine Safety

/-- Settles O44: from the acquire point on, the known bytes are those outside the footprint and those the answer
lists. -/
theorem acquirePointGivesTheFootprintToTheTransport : Obligations.AcquirePointGivesTheFootprintToTheTransport := by
  intro s t x ready unbroken ok hframes hrequest h unlisted
  rw [execAcquire_of_ready ready, acquireRule_ok unbroken ok] at h
  have ha : 0 < grantedFrames s.txn.grant s.txn.arg0 := lt_min hframes hrequest
  have hmax : grantedFrames s.txn.grant s.txn.arg0 ≤ s.fcMax.toNat := (grantedFrames_le _ _).1.trans ready.le_max
  generalize grantedFrames s.txn.grant s.txn.arg0 = a at h ha hmax
  obtain ⟨hzero, -⟩ | ⟨-, he⟩ := acquired_cases s.txn.grant a s
  · omega
  rw [he] at h
  cases h
  have ha32 : (BitVec.ofNat 32 a).toNat = a := by
    rw [BitVec.toNat_ofNat, Nat.mod_eq_of_lt (by omega)]
  have read := read_takeSection a { s with curState := .acquired, granted := BitVec.ofNat 32 a } unlisted
  have footprint : inFootprint (grantedAreas s s.txn.grant) a s.cfgFormat.slotWidth x = true ↔
      FootprintByte (grantedAreas s s.txn.grant) (BitVec.ofNat 32 a).toNat s.cfgFormat.slotWidth x := by
    rw [ha32, inFootprint_iff]
  refine ⟨fun hx => ?_, fun hx => ?_⟩
  · exact congrArg (Option.getD · _) (read.trans (if_pos (footprint.mpr hx)))
  · exact read.trans (if_neg (mt footprint.mp hx))

/-- Settles O51: a byte outside the space or not admitted is not accessible, and one such byte stops the access. -/
theorem sampleAccessOffAdmittedMemoryIsStuck : Obligations.SampleAccessOffAdmittedMemoryIsStuck := by
  intro r i s a x hi ready ha hx off
  obtain ⟨access, hexec, -⟩ := execSample_of_ready hi ready
  rw [hexec]
  exact withWindow_stuck access ha hx (State.accessible_eq_false off)

/-- Settles O52: the channel has an area (R33), and the frame's window lies in the admitted footprint. -/
theorem noSampleAccessIsStuckUnderADutifulTransport : Obligations.NoSampleAccessIsStuckUnderADutifulTransport := by
  intro r i s hi inv ready admitted
  obtain ⟨access, hexec, responds⟩ := execSample_of_ready hi ready
  obtain ⟨-, -, hoffset⟩ := inv.params_ok
  have hframe := ready.frame
  have hgranted : s.granted ≠ 0 := fun h => by simp [h] at hframe
  have hchannel : s.txn.arg0.toNat < s.areas.length := by
    rw [inv.areas_held ready.held hgranted]
    exact ready.channel
  have accessible : ∀ x ∈ s.windowAddresses s.areas[s.txn.arg0.toNat] s.txn.arg1.toNat, s.accessible x = true :=
    fun x hx => admitted ready.held x
      (footprintByte_of_mem_windowAddresses hoffset (List.getElem_mem hchannel) hframe hx)
  rw [hexec, withWindow_accessible access (List.getElem?_eq_getElem hchannel) accessible]
  exact responds _

/-- Settles O49: the window that SET wrote reads back as its bytes, and these decode to the converted value. -/
theorem getAfterSetReturnsTheWrittenSample : Obligations.GetAfterSetReturnsTheWrittenSample := by
  intro r r' s t g k ready h h0 h1
  rw [execSet_of_ready r ready] at h
  obtain ⟨a, m, draws, ha, accessible, written, rfl⟩ := setRule_next h
  obtain ⟨_, _, _, _, _, _, _⟩ := g
  subst h0 h1
  have in_range := conv_lt r s.cfgFormat.rep (unbus_lt r s.txn.arg2) s.draws
  generalize conv r s.cfgFormat.rep (unbus r s.txn.arg2) s.draws = w at in_range written ⊢
  have decoded := rawDecode_rawEncode s.cfgFormat.rep s.cfgFormat.be in_range
  rw [← written] at decoded
  refine ⟨_, (execGet_of_ready r' ?ready).trans
    (getRule_of_accessible (a := a) (w := w) r' ?area ?accessible ?window), ?reply⟩
  case ready => exact { ready with }
  case area => exact ha
  case accessible => exact accessible
  case window => exact decoded.symm
  case reply => rfl

end Sys2Proof
end

section
/-!
PROOFS. The decoder (30_encoding.md R82, R84) as one equation for each outcome of its checks, and from these that
words and commands correspond (R71, R83); the codes of the wire formats (R76, R77); a step on a presented transaction
(R70, R55).
-/

namespace Sys2Proof

/-! ## The checks of the decoder (R84) -/

theorem ofBool_of_beq_one (e : BitVec 1) : BitVec.ofBool (e == 1#1) = e := by
  revert e; decide

theorem ofBool_beq_one (b : Bool) : (BitVec.ofBool b == 1#1) = b := by
  cases b <;> rfl

/-- A representation field that is not used reads as u8 (R84). -/
theorem repOfCode_zero : repOfCode 0#4 = some .u8 := rfl

theorem usesRA_iff (opc : BitVec 4) : usesRA opc = true ↔
    opc.toNat = 0 ∨ opc.toNat = 1 ∨ opc.toNat = 2 ∨ opc.toNat = 4 ∨ opc.toNat = 5 := by
  revert opc; decide

theorem usesRB_iff (opc : BitVec 4) : usesRB opc = true ↔ opc.toNat = 0 := by
  revert opc; decide

theorem usesE_iff (opc : BitVec 4) : usesE opc = true ↔ opc.toNat = 1 ∨ opc.toNat = 2 := by
  revert opc; decide

namespace Fields

/-- A reserved bit, or a field that the opcode does not use, is not zero (R71, R82). -/
def Reserved (f : Fields) : Prop :=
  f.low ≠ 0 ∨ (¬usesRA f.opc ∧ f.ra ≠ 0) ∨ (¬usesRB f.opc ∧ f.rb ≠ 0) ∨ (¬usesE f.opc ∧ f.e ≠ 0)

/-- A representation field that the opcode uses holds a reserved code (R75, R82). -/
def BadRep (f : Fields) : Prop :=
  (usesRA f.opc ∧ 9 < f.ra.toNat) ∨ (usesRB f.opc ∧ 9 < f.rb.toNat)

variable {f : Fields}

/-- The decoder's second check, as the decoder writes it. -/
theorem reserved_iff : f.Reserved ↔ (f.low != 0 || (!usesRA f.opc && f.ra != 0) || (!usesRB f.opc && f.rb != 0)
    || (!usesE f.opc && f.e != 0)) = true := by
  simp [Reserved, or_assoc]

/-- The decoder looks at both representation fields, and one that is not used is zero by then. -/
theorem badRep_iff (hres : ¬f.Reserved) : f.BadRep ↔ 9 < f.ra.toNat ∨ 9 < f.rb.toNat := by
  simp only [Reserved, not_or, not_and_or, not_not] at hres
  obtain ⟨-, hra, hrb, -⟩ := hres
  unfold BadRep
  constructor
  · exact Or.imp And.right And.right
  · refine Or.imp (fun h => ⟨hra.resolve_right ?_, h⟩) (fun h => ⟨hrb.resolve_right ?_, h⟩) <;>
      intro hz <;> simp [hz] at h

end Fields

theorem repOfCode_eq_none_iff (c : BitVec 4) : repOfCode c = none ↔ 9 < c.toNat := by
  revert c; decide

/-- With no unused field set, the command that the fields name has these fields (R73, R80). -/
theorem fields_of_commandOf {f : Fields} {a b : Rep} {c : Command} (hres : ¬f.Reserved)
    (ha : repOfCode f.ra = some a) (hb : repOfCode f.rb = some b)
    (hc : commandOf f.opc a b (f.e == 1) = some c) : c.fields = f := by
  obtain ⟨opc, ra, rb, e, low⟩ := f
  have hra := repCode_of_repOfCode ha
  have hrb := repCode_of_repOfCode hb
  simp only [Fields.Reserved, not_or, not_and_or, not_not] at hres hra hrb
  unfold commandOf at hc
  split at hc <;> cases hc
  all_goals
    rename_i hopc
    obtain ⟨-, rfl⟩ := BitVec.toNat_eq_nat.mp hopc
    simp [usesRA, usesRB, usesE] at hres
    simp [Command.fields, plainFields, ofBool_of_beq_one, ← hra, ← hrb, hres]

/-! ## The outcomes of the decoder -/

section
variable {f : Fields}

theorem decodeFields_illegalOpcode (hopc : 12 ≤ f.opc.toNat) : decodeFields f = .illegal .illegalOpcode := by
  have hle : 0xC#4 ≤ f.opc := BitVec.le_def.mpr hopc
  rw [decodeFields, if_pos hle]

theorem not_le_opc (hopc : f.opc.toNat < 12) : ¬0xC#4 ≤ f.opc :=
  BitVec.not_le.mpr (BitVec.lt_def.mpr hopc)

theorem decodeFields_reservedBits (hopc : f.opc.toNat < 12) (hres : f.Reserved) :
    decodeFields f = .illegal .reservedBits := by
  rw [decodeFields, if_neg (not_le_opc hopc), if_pos (Fields.reserved_iff.mp hres)]

theorem decodeFields_illegalRep (hopc : f.opc.toNat < 12) (hres : ¬f.Reserved) (hrep : f.BadRep) :
    decodeFields f = .illegal .illegalRep := by
  rw [decodeFields, if_neg (not_le_opc hopc), if_neg (mt Fields.reserved_iff.mpr hres)]
  rcases (Fields.badRep_iff hres).mp hrep with ha | hb
  · rw [(repOfCode_eq_none_iff _).mpr ha]
  · rw [(repOfCode_eq_none_iff _).mpr hb]
    cases repOfCode f.ra <;> rfl

/-- Behind all checks the command named by the opcode has exactly the given fields (R84). -/
theorem decodeFields_command (hopc : f.opc.toNat < 12) (hres : ¬f.Reserved) (hrep : ¬f.BadRep) :
    ∃ c : Command, c.fields = f ∧ decodeFields f = .command (instrOf c) := by
  rw [Fields.badRep_iff hres, ← repOfCode_eq_none_iff, ← repOfCode_eq_none_iff, not_or] at hrep
  obtain ⟨a, ha⟩ := Option.ne_none_iff_exists'.mp hrep.1
  obtain ⟨b, hb⟩ := Option.ne_none_iff_exists'.mp hrep.2
  obtain ⟨c, hc⟩ := Option.isSome_iff_exists.mp
    ((commandOf_isSome f.opc a b (f.e == 1)).trans (decide_eq_true (BitVec.lt_def.mpr hopc)))
  refine ⟨c, fields_of_commandOf hres ha hb hc, ?_⟩
  rw [decodeFields, if_neg (not_le_opc hopc), if_neg (mt Fields.reserved_iff.mpr hres), ha, hb]
  dsimp only
  rw [hc]

end

/-- Decoding gives back the command whose fields a word has. -/
@[simp] theorem decodeFields_fields (c : Command) : decodeFields c.fields = .command (instrOf c) := by
  cases c <;> simp [decodeFields, Command.fields, plainFields, usesRA, usesRB, usesE, commandOf, repOfCode_zero,
    ofBool_beq_one]

/-- The fields that decode to a command are that command's own (R80, R84). -/
theorem decodeFields_eq_command_iff {f : Fields} {i : Instr} :
    decodeFields f = .command i ↔ f = i.command.fields := by
  constructor
  · intro h
    rcases le_or_gt 12 f.opc.toNat with hopc | hopc
    · rw [decodeFields_illegalOpcode hopc] at h
      cases h
    by_cases hres : f.Reserved
    · rw [decodeFields_reservedBits hopc hres] at h
      cases h
    by_cases hrep : f.BadRep
    · rw [decodeFields_illegalRep hopc hres hrep] at h
      cases h
    obtain ⟨c, hf, hd⟩ := decodeFields_command hopc hres hrep
    rw [hd] at h
    cases h
    rw [command_instrOf, hf]
  · rintro rfl
    rw [decodeFields_fields, instrOf_command]

/-- Settles O1: the fields that decode to a command are its own, and a word and its fields determine each other. -/
theorem decodeAnswersExactlyTheEncodedWord : Obligations.DecodeAnswersExactlyTheEncodedWord := by
  intro w i
  calc decode w = .command i ↔ fieldsOf w = i.command.fields := decodeFields_eq_command_iff
    _ ↔ w = encode i := ⟨fun h => by rw [encode, ← h, word_fieldsOf], fun h => by rw [h, encode, fieldsOf_word]⟩

/-! ## The fields as quotients and remainders of the word (R71) -/

theorem toNat_opc_fieldsOf (w : Word) : (fieldsOf w).opc.toNat = w.toNat / 2 ^ 28 := by
  have hw := w.isLt
  rw [fieldsOf, toNat_extract]
  omega

theorem toNat_ra_fieldsOf (w : Word) : (fieldsOf w).ra.toNat = w.toNat / 2 ^ 24 % 16 :=
  toNat_extract w 24 4

theorem toNat_rb_fieldsOf (w : Word) : (fieldsOf w).rb.toNat = w.toNat / 2 ^ 20 % 16 :=
  toNat_extract w 20 4

theorem toNat_e_fieldsOf (w : Word) : (fieldsOf w).e.toNat = w.toNat / 2 ^ 19 % 2 :=
  toNat_extract w 19 1

theorem toNat_low_fieldsOf (w : Word) : (fieldsOf w).low.toNat = w.toNat % 2 ^ 19 := by
  rw [fieldsOf, toNat_extract, pow_zero, Nat.div_one]

/-- Settles O2: the fields by division are the decoder's, and each clause is one outcome of its checks. -/
theorem decodeChecksInTheOrderOfTheRule : Obligations.DecodeChecksInTheOrderOfTheRule := by
  intro w opc ra rb e low hopc hra hrb he hlow usesA usesB usesOrder reserved badRep hA hB hOrder hreserved hbadRep
  rw [← toNat_opc_fieldsOf] at hopc
  rw [← toNat_ra_fieldsOf] at hra
  rw [← toNat_rb_fieldsOf] at hrb
  rw [← toNat_e_fieldsOf] at he
  rw [← toNat_low_fieldsOf] at hlow
  subst hopc hra hrb he hlow
  rw [decode]
  generalize fieldsOf w = f at *
  rw [← usesRA_iff] at hA
  rw [← usesRB_iff] at hB
  rw [← usesE_iff] at hOrder
  have hres : reserved ↔ f.Reserved := by
    rw [hreserved, hA, hB, hOrder]
    simp [Fields.Reserved, BitVec.toNat_eq]
  have hrep : badRep ↔ f.BadRep := by
    rw [hbadRep, hA, hB, Fields.BadRep]
  rw [hres, hrep]
  refine ⟨decodeFields_illegalOpcode, decodeFields_reservedBits, decodeFields_illegalRep, fun hopc hr hb => ?_⟩
  obtain ⟨c, hc, hd⟩ := decodeFields_command hopc hr hb
  have hlow : f.low = 0 := by_contra fun h => hr (.inl h)
  refine ⟨instrOf c, hd, ?_⟩
  simp [hc, ← hlow]

/-! ## Format codes (R76, R77) -/

/-- Settles O4: the codes of the eighteen formats are the eighteen values `formatOfCode` looks for. -/
theorem formatCodesAreRepresentationAndByteOrder : Obligations.FormatCodesAreRepresentationAndByteOrder := by
  refine ⟨fun x f => ⟨fun h => ?_, fun h => ?_⟩, fun f => ?_, fun f => ?_⟩
  · unfold formatOfCode at h
    split at h <;> cases h <;> assumption
  · rw [formatOfCode, h]
    cases f <;> rfl
  · cases f <;> rfl
  · cases f <;> decide

/-- Settles O3: each word is its command's encoding, and the reserved one fails the second check of R84. -/
theorem sampleWordsDecode : Obligations.SampleWordsDecode := by
  have decodes := fun w i => (decodeAnswersExactlyTheEncodedWord w i).mpr
  refine ⟨decodes _ _ ?_, decodes _ _ ?_, decodes _ _ ?_, decodes _ _ ?_, decodes _ _ ?_, decodes _ _ ?_,
    decodes _ _ ?_, decodes _ _ ?_, decodes _ _ ?_, decodes _ _ ?_, decodes _ _ ?_, decodes _ _ ?_,
    decodes _ _ ?_, decodeFields_reservedBits ?_ (.inl ?_)⟩ <;> decide

end Sys2Proof

namespace Sys2Proof.Machine

/-! ## A step on a presented transaction -/

theorem step_transaction {s : State} {p : Port} {t : Transaction} {es : List Event}
    (h : s.inbox = .transaction p t :: es) : step s = perform (accept p t es s) := by
  rw [step, h]

theorem perform_command {s : State} {i : Instr} (h : decode s.txn.cmd = .command i) :
    perform s = orAbandoned s (exec i s) := by
  rw [perform, h]

theorem orAbandoned_fault {s : State} (f : Fault) (h : Event.reset ∉ s.inbox) :
    orAbandoned s (.fault f) = .fault f := by
  obtain ⟨-, ht⟩ | ⟨before, after, hin, -, -⟩ := takeReset_eq s.inbox
  · rw [orAbandoned, ht]
  · simp [hin] at h

end Sys2Proof.Machine

namespace Sys2Proof
open Machine

/-- Settles O5: the accepted transaction is performed by its command, whose outcome stands unless a reset is to come. -/
theorem stepRunsTheDecodedCommand : Obligations.StepRunsTheDecodedCommand := by
  rintro s s1 p t es i presented decoded rfl
  have hstep : step s = orAbandoned (accept p t es s) (exec i (accept p t es s)) :=
    (step_transaction presented).trans (perform_command decoded)
  refine ⟨fun u h => ?_, fun f h no_reset => ?_⟩
  · rw [hstep, accept, h]
    rfl
  · rw [hstep, accept, h]
    exact orAbandoned_fault f no_reset

end Sys2Proof
end

section
/-!
PROOFS. Conversions between integer representations (40_conversion.md R92 to R98). A pattern's rank counts the integers
of the representation below its own; between any two representations a conversion only shifts the rank.
-/

namespace Sys2Proof
open Machine

/-! ## Widths -/

theorem Rep.one_le_width (r : Rep) : 1 ≤ r.width := by
  cases r <;> decide

theorem Rep.two_pow_width (r : Rep) : 2 ^ r.width = 2 * 2 ^ (r.width - 1) := by
  rw [← Nat.pow_succ', Nat.succ_eq_add_one, Nat.sub_add_cancel r.one_le_width]

/-! ## Ranks -/

/-- How many integers of the representation lie below the pattern's. -/
def Rep.rank (r : Rep) (p : Nat) : Nat :=
  if r.isSigned then flipSign r.width p else p

theorem Rep.rank_of_unsigned {r : Rep} (h : r.isSigned = false) (p : Nat) : r.rank p = p := by
  simp [Rep.rank, h]

theorem Rep.rank_of_signed {r : Rep} (h : r.isSigned = true) (p : Nat) : r.rank p = flipSign r.width p := by
  simp [Rep.rank, h]

/-- The half-range offset of a pattern, without its wraparound. -/
theorem flipSign_eq_ite (r : Rep) {p : Nat} (hp : p < 2 ^ r.width) :
    flipSign r.width p = if 2 ^ (r.width - 1) ≤ p then p - 2 ^ (r.width - 1) else p + 2 ^ (r.width - 1) := by
  rw [r.two_pow_width] at hp
  rw [flipSign, r.two_pow_width]
  split_ifs with h
  · rw [Nat.mod_eq_sub_mod (by omega), Nat.mod_eq_of_lt (by omega)]
    omega
  · exact Nat.mod_eq_of_lt (by omega)

/-- A pattern's integer is its rank above the least one (R9, R12). -/
theorem intOf_eq_rank_add_minInt (r : Rep) {p : Nat} (hp : p < 2 ^ r.width) : r.intOf p = r.rank p + r.minInt := by
  cases h : r.isSigned
  · simp [intOf_of_unsigned h, Rep.rank_of_unsigned h, Rep.minInt, h]
  · have hw : (2 : Int) ^ r.width = 2 * 2 ^ (r.width - 1) := by exact_mod_cast r.two_pow_width
    rw [intOf_of_signed h, Rep.rank_of_signed h, flipSign_eq_ite r hp, Rep.minInt, if_pos h, hw]
    split_ifs with hge
    · push_cast [Nat.cast_sub hge]
      ring
    · push_cast
      ring

theorem Rep.rank_injective (r : Rep) {p p' : Nat} (hp : p < 2 ^ r.width) (hp' : p' < 2 ^ r.width)
    (h : r.rank p = r.rank p') : p = p' := by
  rw [← patternOf_intOf r hp, ← patternOf_intOf r hp', intOf_eq_rank_add_minInt r hp, intOf_eq_rank_add_minInt r hp', h]

/-! ## The shift -/

/-- The shift from one width to another: left where it widens (R95), the top bits where it does not (R96). -/
def rescale (ws wd p : Nat) : Nat :=
  if ws < wd then p * 2 ^ (wd - ws) else p / 2 ^ (ws - wd)

theorem rescale_of_le {ws wd : Nat} (h : ws ≤ wd) (p : Nat) : rescale ws wd p = p * 2 ^ (wd - ws) := by
  rcases h.lt_or_eq with hlt | rfl
  · exact if_pos hlt
  · simp [rescale]

theorem rescale_of_ge {ws wd : Nat} (h : wd ≤ ws) (p : Nat) : rescale ws wd p = p / 2 ^ (ws - wd) :=
  if_neg h.not_gt

@[simp] theorem rescale_self (w p : Nat) : rescale w w p = p := by
  simp [rescale]

/-- Narrowing back undoes widening. -/
theorem rescale_rescale_of_le {ws wd : Nat} (h : ws ≤ wd) (p : Nat) : rescale wd ws (rescale ws wd p) = p := by
  rw [rescale_of_ge h, rescale_of_le h, Nat.mul_div_cancel _ (Nat.two_pow_pos _)]

/-- The shift is the floor of the scaled number. -/
theorem rescale_eq_floor (ws wd p : Nat) : (rescale ws wd p : Int) = ⌊(p : ℚ) * 2 ^ ((wd : Int) - ws)⌋ := by
  rcases le_total ws wd with h | h
  · obtain ⟨i, rfl⟩ := Nat.exists_eq_add_of_le h
    have hcast : (p : ℚ) * 2 ^ (((ws + i : Nat) : Int) - ws) = ((p * 2 ^ i : Nat) : ℚ) := by
      push_cast
      rw [add_sub_cancel_left, zpow_natCast]
    rw [rescale_of_le h, hcast, Int.floor_natCast, Nat.add_sub_cancel_left]
  · obtain ⟨i, rfl⟩ := Nat.exists_eq_add_of_le h
    have hcast : (p : ℚ) * 2 ^ ((wd : Int) - (wd + i : Nat)) = (p : ℚ) / ((2 ^ i : Nat) : ℚ) := by
      push_cast
      rw [sub_add_cancel_left, zpow_neg, zpow_natCast, div_eq_mul_inv]
    rw [rescale_of_ge h, hcast, Rat.floor_natCast_div_natCast, Nat.add_sub_cancel_left]
    norm_cast

/-- The sign flip and the shift commute (R97). -/
theorem flipSign_rescale (s d : Rep) {p : Nat} :
    flipSign d.width (rescale s.width d.width p) = rescale s.width d.width (flipSign s.width p) := by
  have hs := s.one_le_width
  have hd := d.one_le_width
  unfold flipSign
  rcases le_total s.width d.width with h | h
  · obtain ⟨i, hi⟩ := Nat.exists_eq_add_of_le h
    have hhalf : 2 ^ (d.width - 1) = 2 ^ (s.width - 1) * 2 ^ i := by rw [← Nat.pow_add]; congr 1; omega
    rw [rescale_of_le h, rescale_of_le h, hhalf, hi, Nat.add_sub_cancel_left, Nat.pow_add, ← Nat.add_mul,
      Nat.mul_mod_mul_right]
  · obtain ⟨i, hi⟩ := Nat.exists_eq_add_of_le h
    have hhalf : 2 ^ (s.width - 1) = 2 ^ (d.width - 1) * 2 ^ i := by rw [← Nat.pow_add]; congr 1; omega
    rw [rescale_of_ge h, rescale_of_ge h, hhalf, hi, Nat.add_sub_cancel_left, Nat.pow_add, Nat.mul_comm (2 ^ d.width),
      Nat.mod_mul_right_div_self, Nat.add_mul_div_right _ _ (Nat.two_pow_pos i)]

namespace Machine

/-! ## Conversions as shifts -/

theorem intConv_of_same_sign {s d : Rep} (h : s.isSigned = d.isSigned) (v : Nat) :
    intConv s d v = rescale s.width d.width v := by
  simp [intConv, h, rescale]

theorem intConv_of_sign_change {s d : Rep} (h : s.isSigned ≠ d.isSigned) (v : Nat) :
    intConv s d v = rescale s.width d.width (flipSign s.width v) := by
  simp [intConv, h, rescale]

/-- Between integer representations, equal ones included, `conv` is `intConv`. -/
theorem conv_eq_intConv {s d : Rep} (hs : s.isFloat = false) (hd : d.isFloat = false) (v k : Nat) :
    conv s d v k = intConv s d v := by
  by_cases h : s = d
  · subst h
    rw [conv_self, intConv_of_same_sign rfl, rescale_self]
  · exact (conv_int hs hd h v k).1

/-- Between any two integer representations a conversion shifts the rank. -/
theorem rank_conv {s d : Rep} (hs : s.isFloat = false) (hd : d.isFloat = false) {v : Nat} (hv : v < 2 ^ s.width)
    (k : Nat) : d.rank (conv s d v k) = rescale s.width d.width (s.rank v) := by
  rw [conv_eq_intConv hs hd]
  by_cases h : s.isSigned = d.isSigned
  · rw [intConv_of_same_sign h]
    cases hsign : s.isSigned
    · rw [Rep.rank_of_unsigned (h ▸ hsign), Rep.rank_of_unsigned hsign]
    · rw [Rep.rank_of_signed (h ▸ hsign), Rep.rank_of_signed hsign, flipSign_rescale]
  · rw [intConv_of_sign_change h]
    cases hsign : s.isSigned
    · have hdsign : d.isSigned = true := by simpa [hsign] using h
      rw [Rep.rank_of_signed hdsign, Rep.rank_of_unsigned hsign, flipSign_rescale, flipSign_flipSign s.one_le_width hv]
    · have hdsign : d.isSigned = false := by simpa [hsign] using h
      rw [Rep.rank_of_unsigned hdsign, Rep.rank_of_signed hsign]

/-- The half range at the destination's width is the one at the source's, scaled. -/
theorem two_pow_width_sub_one_scaled (s d : Rep) :
    (2 : ℚ) ^ (d.width - 1) = 2 ^ (s.width - 1) * 2 ^ ((d.width : Int) - s.width) := by
  have hs := s.one_le_width
  have hd := d.one_le_width
  rw [← zpow_natCast, ← zpow_natCast, ← zpow_add₀ two_ne_zero]
  congr 1
  omega

/-- One floor formula for every pair: counted from the source's least integer, then from the destination's, scaled by
the widths (R94 to R97). -/
theorem intOf_conv_eq_floor {s d : Rep} (hs : s.isFloat = false) (hd : d.isFloat = false) {v : Nat}
    (hv : v < 2 ^ s.width) (k : Nat) :
    d.intOf (conv s d v k) =
      ⌊((s.intOf v : ℚ) - s.minInt + if d.isSigned then -2 ^ (s.width - 1) else 0) *
        2 ^ ((d.width : Int) - s.width)⌋ := by
  have hmin : (d.minInt : ℚ) = (if d.isSigned then -2 ^ (s.width - 1) else 0) * 2 ^ ((d.width : Int) - s.width) := by
    unfold Rep.minInt
    split_ifs
    · push_cast
      rw [two_pow_width_sub_one_scaled s d, neg_mul]
    · simp
  have hrank : (s.rank v : ℚ) = s.intOf v - s.minInt := by
    rw [intOf_eq_rank_add_minInt s hv]
    push_cast
    ring
  rw [intOf_eq_rank_add_minInt d (conv_lt s d hv k), rank_conv hs hd hv, rescale_eq_floor, ← Int.floor_add_intCast,
    hmin, hrank, ← add_mul]

/-- The floor formula without a change of sign (R95, R96). -/
theorem intOf_conv_of_same_sign {s d : Rep} (hs : s.isFloat = false) (hd : d.isFloat = false)
    (h : s.isSigned = d.isSigned) {v : Nat} (hv : v < 2 ^ s.width) (k : Nat) :
    d.intOf (conv s d v k) = ⌊(s.intOf v : ℚ) * 2 ^ ((d.width : Int) - s.width)⌋ := by
  rw [intOf_conv_eq_floor hs hd hv, Rep.minInt, h]
  split_ifs <;> simp

/-- The floor formula from unsigned to signed (R94, R97). -/
theorem intOf_conv_unsigned_signed {s d : Rep} (hs : s.isFloat = false) (hd : d.isFloat = false)
    (hsign : s.isSigned = false) (hdsign : d.isSigned = true) {v : Nat} (hv : v < 2 ^ s.width) (k : Nat) :
    d.intOf (conv s d v k) = ⌊((s.intOf v : ℚ) - 2 ^ (s.width - 1)) * 2 ^ ((d.width : Int) - s.width)⌋ := by
  rw [intOf_conv_eq_floor hs hd hv, Rep.minInt, hsign, hdsign]
  simp [sub_eq_add_neg]

/-- The floor formula from signed to unsigned (R94, R97). -/
theorem intOf_conv_signed_unsigned {s d : Rep} (hs : s.isFloat = false) (hd : d.isFloat = false)
    (hsign : s.isSigned = true) (hdsign : d.isSigned = false) {v : Nat} (hv : v < 2 ^ s.width) (k : Nat) :
    d.intOf (conv s d v k) = ⌊((s.intOf v : ℚ) + 2 ^ (s.width - 1)) * 2 ^ ((d.width : Int) - s.width)⌋ := by
  rw [intOf_conv_eq_floor hs hd hv, Rep.minInt, hsign, hdsign]
  simp

/-- Two conversions in a row, one of which keeps the width, shift the rank once, as the one from end to end does. -/
theorem conv_conv_of_width_eq {s m d : Rep} (hs : s.isFloat = false) (hm : m.isFloat = false) (hd : d.isFloat = false)
    (hwidth : m.width = s.width ∨ m.width = d.width) {v : Nat} (hv : v < 2 ^ s.width) (k k' k'' : Nat) :
    conv m d (conv s m v k) k' = conv s d v k'' := by
  have hmid := conv_lt s m hv k
  apply d.rank_injective (conv_lt m d hmid k') (conv_lt s d hv k'')
  rw [rank_conv hm hd hmid, rank_conv hs hm hv, rank_conv hs hd hv]
  rcases hwidth with h | h <;> simp [h]

/-- Converting to a representation at least as wide and back gives the value (R98). -/
theorem conv_conv_of_width_le {s d : Rep} (hs : s.isFloat = false) (hd : d.isFloat = false) (h : s.width ≤ d.width)
    {v : Nat} (hv : v < 2 ^ s.width) (k k' : Nat) : conv d s (conv s d v k) k' = v := by
  have hmid := conv_lt s d hv k
  apply s.rank_injective (conv_lt d s hmid k') hv
  rw [rank_conv hd hs hmid, rank_conv hs hd hv, rescale_rescale_of_le h]

end Machine

/-! ## The obligations -/

/-- Settles O21: the identity class answers its operand and makes no draw. -/
theorem identityConversionKeepsEveryBit : Obligations.IdentityConversionKeepsEveryBit :=
  fun r v k => ⟨conv_self r v k, by simp [convDraws, convFixed, convClass]⟩

/-- Settles O22: the values by the floor formula at equal widths, the pattern by the sign flip's exclusive-or. -/
theorem signFlipIsTheHalfRangeOffset : Obligations.SignFlipIsTheHalfRangeOffset := by
  intro s d x k k' hs hd hw hsign
  have hv := unbus_lt s x
  have hscale : (2 : ℚ) ^ ((d.width : Int) - s.width) = 1 := by rw [hw, sub_self, zpow_zero]
  refine ⟨fun h => ?_, fun h => ?_, ?_, conv_conv_of_width_le hs hd hw.le hv k k'⟩
  · have hdsign : d.isSigned = true := by simpa [h] using hsign
    rw [intOf_conv_unsigned_signed hs hd h hdsign hv, hscale, mul_one]
    exact_mod_cast Int.floor_intCast (R := ℚ) (s.intOf (unbus s x) - 2 ^ (s.width - 1))
  · have hdsign : d.isSigned = false := by simpa [h] using hsign
    rw [intOf_conv_signed_unsigned hs hd h hdsign hv, hscale, mul_one]
    exact_mod_cast Int.floor_intCast (R := ℚ) (s.intOf (unbus s x) + 2 ^ (s.width - 1))
  · rw [conv_eq_intConv hs hd, intConv_of_sign_change hsign, ← hw, rescale_self, flipSign_eq_xor s.one_le_width hv]

/-- Settles O23: the scaled integer is one already, so that its floor is itself. -/
theorem wideningMultipliesByThePowerOfTwo : Obligations.WideningMultipliesByThePowerOfTwo := by
  intro s d x k hs hd hsign hw
  have hv := unbus_lt s x
  refine ⟨?_, conv_lt s d hv k⟩
  have hscale : (2 : ℚ) ^ ((d.width : Int) - s.width) = 2 ^ (d.width - s.width) := by
    rw [← Nat.cast_sub hw.le, zpow_natCast]
  rw [intOf_conv_of_same_sign hs hd hsign hv, hscale]
  exact_mod_cast Int.floor_intCast (R := ℚ) (s.intOf (unbus s x) * 2 ^ (d.width - s.width))

/-- Settles O24: the shift keeps the top bits, and its floor formula is the quotient's. -/
theorem narrowingIsTheFloorOfTheQuotient : Obligations.NarrowingIsTheFloorOfTheQuotient := by
  intro s d x k hs hd hsign hw
  have hscale : (2 : ℚ) ^ ((d.width : Int) - s.width) = (2 ^ (s.width - d.width))⁻¹ := by
    rw [← neg_sub, ← Nat.cast_sub hw.le, zpow_neg, zpow_natCast]
  constructor
  · rw [conv_eq_intConv hs hd, intConv_of_same_sign hsign, rescale_of_ge hw.le]
  · rw [intOf_conv_of_same_sign hs hd hsign (unbus_lt s x), hscale, div_eq_mul_inv]

/-- Settles O25: the floor formula at each change of sign; a flip does not shift, so that either order shifts once. -/
theorem crossConversionComposesFlipAndWidth : Obligations.CrossConversionComposesFlipAndWidth := by
  intro s d x k hs hd hsign _
  have hv := unbus_lt s x
  refine ⟨fun h => ?_, fun h => ?_, fun m hm _ hw => ?_, fun m hm _ hw => ?_⟩
  · exact intOf_conv_unsigned_signed hs hd h (by simpa [h] using hsign) hv k
  · exact intOf_conv_signed_unsigned hs hd h (by simpa [h] using hsign) hv k
  · exact (conv_conv_of_width_eq hs hm hd (.inl hw) hv k k k).symm
  · exact (conv_conv_of_width_eq hs hm hd (.inr hw) hv k k k).symm

/-- Settles O26: the shift back undoes a shift that widened, and after one that narrowed the low bits are gone. -/
theorem integerConversionsRoundTrip : Obligations.IntegerConversionsRoundTrip := by
  intro s d x k k' hs hd
  refine ⟨fun hw => conv_conv_of_width_le hs hd hw (unbus_lt s x) k k', fun hw hsign => ?_⟩
  rw [conv_eq_intConv hd hs, conv_eq_intConv hs hd, intConv_of_same_sign hsign.symm, intConv_of_same_sign hsign,
    rescale_of_le hw.le, rescale_of_ge hw.le]
  have := Nat.div_add_mod' (unbus s x) (2 ^ (s.width - d.width))
  omega

/-- Settles O20: CVT is legal on both ports, and unfaulted it performs its rule. -/
theorem cvtAnswersTheConversion : Obligations.CvtAnswersTheConversion := by
  intro a b s hf
  rw [exec_cvt, cvt, gated_of_legal _ hf rfl]
  rfl

end Sys2Proof
end

section
/-!
PROOFS. Rounding to nearest, ties to even (00_scope.md R10): a rounded number is nearest among all numbers of its
format, so that a number of the format rounds to itself, and what is rounded matters only by its value.
-/

namespace Sys2Proof.Machine
open Sys2Proof.Safety

/-! ## Rounding to the nearest integer -/

/-- A quotient halfway between two integers rounds to the even one. -/
theorem divNearestEven_even_of_half {m k : Nat} (h : |(divNearestEven m k : ℚ) - m / 2 ^ k| = 1 / 2) :
    divNearestEven m k % 2 = 0 := by
  have hp : (0 : ℚ) < 2 ^ k := by positivity
  have hscaled : 2 * (2 ^ k * divNearestEven m k) = 2 * m + 2 ^ k ∨
      2 * (2 ^ k * divNearestEven m k) + 2 ^ k = 2 * m := by
    rcases (abs_eq (by norm_num)).1 h with h | h
    · rw [sub_eq_iff_eq_add, ← sub_eq_iff_eq_add', eq_div_iff hp.ne'] at h
      exact .inl (by exact_mod_cast (by linarith : (2 * (2 ^ k * divNearestEven m k) : ℚ) = 2 * m + 2 ^ k))
    · rw [sub_eq_iff_eq_add, ← sub_eq_iff_eq_add', eq_div_iff hp.ne'] at h
      exact .inr (by exact_mod_cast (by linarith : (2 * (2 ^ k * divNearestEven m k) + 2 ^ k : ℚ) = 2 * m))
  have hm := Nat.div_add_mod m (2 ^ k)
  unfold divNearestEven at hscaled ⊢
  simp only [Bool.or_eq_true, Bool.and_eq_true, decide_eq_true_eq] at hscaled ⊢
  split_ifs at hscaled ⊢ with hup
  · rw [Nat.mul_add] at hscaled
    omega
  · omega

theorem scaleNearestEven_even_of_half {m : Nat} {j : Int} (h : |(scaleNearestEven m j : ℚ) - m * 2 ^ j| = 1 / 2) :
    scaleNearestEven m j % 2 = 0 := by
  unfold scaleNearestEven at h ⊢
  split_ifs at h ⊢ with hj
  · lift j to Nat using hj
    norm_num at h
  · obtain ⟨k, rfl⟩ : ∃ k : Nat, j = -k := ⟨(-j).toNat, by omega⟩
    apply divNearestEven_even_of_half
    simpa [div_eq_mul_inv] using h

/-- The integer `r` is at least as near to `x` as `c` is, and even where it is another one as near. -/
def NoFarther (r : Nat) (x c : ℚ) : Prop :=
  |(r : ℚ) - x| ≤ |c - x| ∧ (c ≠ r → |(r : ℚ) - x| = |c - x| → r % 2 = 0)

/-- Among the integers none is nearer than the rounded one. -/
theorem scaleNearestEven_noFarther (m : Nat) (j n : Int) : NoFarther (scaleNearestEven m j) (m * 2 ^ j) n := by
  have hnear := scaleNearestEven_near m j
  have heven := scaleNearestEven_even_of_half (m := m) (j := j)
  generalize (m : ℚ) * 2 ^ j = x at *
  generalize scaleNearestEven m j = r at *
  by_cases hn : n = r
  · subst hn
    simp [NoFarther]
  have hapart : (1 : ℚ) ≤ |(r : ℚ) - n| := by
    exact_mod_cast Int.one_le_abs (sub_ne_zero.2 (Ne.symm hn))
  have hsplit : |(r : ℚ) - n| ≤ |(r : ℚ) - x| + |(n : ℚ) - x| := by
    simpa [abs_sub_comm x] using abs_sub_le (r : ℚ) x n
  refine ⟨by linarith, fun _ heq => heven ?_⟩
  linarith

/-- The rounded integer depends on the value alone. -/
theorem scaleNearestEven_congr {m m' : Nat} {j j' : Int} (h : (m : ℚ) * 2 ^ j = m' * 2 ^ j') :
    scaleNearestEven m j = scaleNearestEven m' j' := by
  by_contra hne
  obtain ⟨hle, heven⟩ := scaleNearestEven_noFarther m j (scaleNearestEven m' j')
  obtain ⟨hle', heven'⟩ := scaleNearestEven_noFarther m' j' (scaleNearestEven m j)
  have hnear := scaleNearestEven_near m j
  have hnear' := scaleNearestEven_near m' j'
  rw [← h] at hle' heven' hnear'
  generalize (m : ℚ) * 2 ^ j = x at *
  generalize scaleNearestEven m j = r at *
  generalize scaleNearestEven m' j' = r' at *
  push_cast at *
  have heq : |(r : ℚ) - x| = |(r' : ℚ) - x| := hle.antisymm hle'
  have hr := heven (by exact_mod_cast Ne.symm hne) heq
  have hr' := heven' (by exact_mod_cast hne) heq.symm
  have hsplit : |(r : ℚ) - r'| ≤ |(r : ℚ) - x| + |(r' : ℚ) - x| := by
    simpa [abs_sub_comm x] using abs_sub_le (r : ℚ) x r'
  have hclose : |(r : Int) - r'| ≤ 1 := by
    exact_mod_cast (by linarith : |(r : ℚ) - r'| ≤ 1)
  rw [abs_le] at hclose
  omega

namespace FloatFormat

variable (t : FloatFormat)

/-! ## The numbers of a format -/

/-- A significand of the format's precision at a weight from the least on, with no bound above. -/
def Grid (v : ℚ) : Prop :=
  ∃ n k : Int, |n| < 2 * 2 ^ (t.prec - 1) ∧ t.qmin ≤ k ∧ v = n * 2 ^ k

/-- The greatest finite number. -/
def maxFinite : ℚ :=
  (2 * 2 ^ (t.prec - 1) - 1) * 2 ^ (t.qmin + (2 ^ t.expBits - 3 : Nat))

variable {t}

theorem Grid.neg {v : ℚ} (h : t.Grid v) : t.Grid (-v) := by
  obtain ⟨n, k, hn, hk, rfl⟩ := h
  exact ⟨-n, k, by rwa [abs_neg], hk, by push_cast; ring⟩

theorem grid_zero : t.Grid 0 :=
  ⟨0, t.qmin, by simp, le_rfl, by simp⟩

/-- A significand one above the precision is a power of two, and on the grid too. -/
theorem grid_of_abs_le {v : ℚ} {n k : Int} (hv : v = n * 2 ^ k) (hn : |n| ≤ 2 * 2 ^ (t.prec - 1)) (hk : t.qmin ≤ k) :
    t.Grid v := by
  rcases hn.lt_or_eq with hlt | heq
  · exact ⟨n, k, hlt, hk, hv⟩
  have hp : (0 : Int) < 2 ^ (t.prec - 1) := by positivity
  rcases (abs_eq (by positivity)).1 heq with rfl | rfl
  · refine ⟨2 ^ (t.prec - 1), k + 1, by rw [abs_of_pos hp]; omega, by omega, ?_⟩
    rw [hv, zpow_add_one₀ two_ne_zero]
    push_cast
    ring
  · refine ⟨-2 ^ (t.prec - 1), k + 1, by rw [abs_neg, abs_of_pos hp]; omega, by omega, ?_⟩
    rw [hv, zpow_add_one₀ two_ne_zero]
    push_cast
    ring

theorem abs_signed (neg : Bool) (m : Nat) : |signed neg m| = m := by
  cases neg <;> simp [signed]

theorem grid_finValue {neg : Bool} {m : Nat} {e : Int} (hm : m < 2 * 2 ^ (t.prec - 1)) (he : t.qmin ≤ e) :
    t.Grid (finValue neg m e) :=
  ⟨signed neg m, e, by rw [abs_signed]; exact_mod_cast hm, he, rfl⟩

theorem grid_of_hasValue {p : Nat} {v : ℚ} (h : HasValue t p v) : t.Grid v := by
  obtain ⟨neg, m, e, hnum, rfl⟩ := h
  obtain ⟨hm, he, -⟩ := t.bounds_of_num_eq_fin hnum
  exact grid_finValue hm he

theorem abs_le_maxFinite_of_hasValue {p : Nat} {v : ℚ} (h : HasValue t p v) : |v| ≤ t.maxFinite := by
  obtain ⟨neg, m, e, hnum, rfl⟩ := h
  obtain ⟨hm, -, he⟩ := t.bounds_of_num_eq_fin hnum
  have hm' : (m : ℚ) ≤ 2 * 2 ^ (t.prec - 1) - 1 := by
    rw [le_sub_iff_add_le]
    exact_mod_cast hm
  rw [abs_finValue, maxFinite]
  gcongr
  · exact m.cast_nonneg.trans hm'
  · exact one_le_two

/-! ## The rounded significand -/

/-- Above the least quantum a number is at least the leading bit there. -/
theorem two_pow_le_scaled {m : Nat} {e : Int} (hm : m ≠ 0) (h : t.qmin < t.quantum m e) :
    (2 : ℚ) ^ (t.prec - 1) ≤ m * 2 ^ (e - t.quantum m e) := by
  have hq : t.quantum m e = (Nat.log2 m : Int) + e - (t.prec - 1 : Nat) := by
    unfold quantum at h ⊢
    omega
  have hlog : (2 : ℚ) ^ (Nat.log2 m : Int) ≤ m := by exact_mod_cast Nat.log2_self_le hm
  calc (2 : ℚ) ^ (t.prec - 1) = 2 ^ ((t.prec - 1 : Nat) : Int) := (zpow_natCast _ _).symm
    _ = 2 ^ ((Nat.log2 m : Int) + (e - t.quantum m e)) := by rw [hq]; congr 1; ring
    _ = 2 ^ (Nat.log2 m : Int) * 2 ^ (e - t.quantum m e) := zpow_add₀ two_ne_zero _ _
    _ ≤ m * 2 ^ (e - t.quantum m e) := by gcongr

/-- At the quantum: a number of a lower weight stays below the leading bit, so that none is nearer than the rounded
significand. -/
theorem significand_noFarther {m : Nat} {e n k : Int} (hm : m ≠ 0) (hn : |n| < 2 * 2 ^ (t.prec - 1))
    (hk : t.qmin ≤ k) :
    NoFarther (t.significand m e) (m * 2 ^ (e - t.quantum m e)) (n * 2 ^ (k - t.quantum m e)) := by
  have hnearest (i : Int) : NoFarther (t.significand m e) (m * 2 ^ (e - t.quantum m e)) i :=
    scaleNearestEven_noFarther m _ i
  rcases le_or_gt (t.quantum m e) k with hq | hq
  · obtain ⟨i, hi⟩ : ∃ i : Nat, k - t.quantum m e = i := ⟨(k - t.quantum m e).toNat, by omega⟩
    rw [hi, zpow_natCast]
    exact_mod_cast hnearest (n * 2 ^ i)
  · have hlead := two_pow_le_scaled (t := t) hm (hk.trans_lt hq)
    have hbelow : (n : ℚ) * 2 ^ (k - t.quantum m e) < 2 ^ (t.prec - 1) := by
      have hn' : (n : ℚ) < 2 * 2 ^ (t.prec - 1) := by exact_mod_cast (le_abs_self n).trans_lt hn
      calc (n : ℚ) * 2 ^ (k - t.quantum m e) < 2 * 2 ^ (t.prec - 1) * 2 ^ (k - t.quantum m e) := by gcongr
        _ ≤ 2 * 2 ^ (t.prec - 1) * 2 ^ (-1 : Int) := by
          gcongr
          · exact one_le_two
          · omega
        _ = 2 ^ (t.prec - 1) := by ring
    obtain ⟨hle, -⟩ := hnearest (2 ^ (t.prec - 1))
    push_cast at hle
    rw [abs_of_nonpos (sub_nonpos.2 hlead)] at hle
    have hlt := hle.trans_lt (lt_abs.2 (.inr (neg_lt_neg (sub_lt_sub_right hbelow _))))
    exact ⟨hlt.le, fun _ heq => absurd heq hlt.ne⟩

/-- Among the numbers of the format none is nearer than the rounded one, and where another is as near the rounded
significand is even. -/
theorem significand_nearest {m : Nat} {e : Int} (hm : m ≠ 0) {v : ℚ} (hv : t.Grid v) :
    |(t.significand m e : ℚ) * 2 ^ t.quantum m e - m * 2 ^ e| ≤ |v - m * 2 ^ e| ∧
    (v ≠ t.significand m e * 2 ^ t.quantum m e →
      |(t.significand m e : ℚ) * 2 ^ t.quantum m e - m * 2 ^ e| = |v - m * 2 ^ e| → t.significand m e % 2 = 0) := by
  obtain ⟨n, k, hn, hk, rfl⟩ := hv
  obtain ⟨hle, heven⟩ := significand_noFarther (e := e) hm hn hk
  have hpos : (0 : ℚ) < 2 ^ t.quantum m e := by positivity
  have hscale (a : ℚ) (j : Int) : a * 2 ^ j = a * 2 ^ (j - t.quantum m e) * 2 ^ t.quantum m e := by
    rw [mul_assoc, ← zpow_add₀ two_ne_zero, sub_add_cancel]
  rw [hscale m e, hscale n k, ← sub_mul, ← sub_mul, abs_mul, abs_mul, abs_of_pos hpos]
  exact ⟨by gcongr, fun hne heq =>
    heven (fun h => hne (by rw [h])) (mul_right_cancel₀ hpos.ne' heq)⟩

/-- Up to the greatest finite number the rounded pattern stays below infinity's. -/
theorem field_lt_infMag (he : 2 ≤ t.expBits) {m : Nat} {e : Int} (hm : m ≠ 0) (h : (m : ℚ) * 2 ^ e ≤ t.maxFinite) :
    (t.quantum m e - t.qmin).toNat * 2 ^ (t.prec - 1) + t.significand m e < t.infMag := by
  obtain ⟨k, hk⟩ : ∃ k : Nat, t.quantum m e = t.qmin + k :=
    ⟨(t.quantum m e - t.qmin).toNat, by have := t.qmin_le_quantum m e; omega⟩
  have hfield : (t.quantum m e - t.qmin).toNat = k := by omega
  obtain ⟨K, hK⟩ : ∃ K, 2 ^ t.expBits = K + 3 :=
    ⟨2 ^ t.expBits - 3, by have := Nat.pow_le_pow_right two_pos he; omega⟩
  have hinf : t.infMag = (K + 2) * 2 ^ (t.prec - 1) := by rw [infMag, hK]; rfl
  have hle := t.significand_le m e
  have hp := Nat.two_pow_pos (t.prec - 1)
  rw [maxFinite, hK, Nat.add_sub_cancel] at h
  rw [hfield, hinf, Nat.add_mul]
  rcases lt_trichotomy k K with hlt | rfl | hgt
  · have := Nat.mul_le_mul_right (2 ^ (t.prec - 1)) (Nat.succ_le_of_lt hlt)
    rw [Nat.succ_mul] at this
    omega
  · have hs : t.significand m e ≤ 2 * 2 ^ (t.prec - 1) - 1 := by
      apply scaleNearestEven_le
      rw [hk, zpow_sub₀ two_ne_zero, ← mul_div_assoc, div_le_iff₀ (by positivity)]
      push_cast [Nat.cast_sub (show 1 ≤ 2 * 2 ^ (t.prec - 1) by omega)]
      exact h
    omega
  · exfalso
    have hlead := two_pow_le_scaled (t := t) (e := e) hm (by omega)
    rw [zpow_sub₀ two_ne_zero, ← mul_div_assoc, le_div_iff₀ (by positivity)] at hlead
    have hup : (2 : ℚ) ^ (t.qmin + K + 1) ≤ 2 ^ t.quantum m e := zpow_le_zpow_right₀ one_le_two (by omega)
    rw [zpow_add_one₀ two_ne_zero] at hup
    have hpos : (0 : ℚ) < 2 ^ (t.qmin + (K : Int)) := by positivity
    have : (2 : ℚ) ^ (t.prec - 1) * (2 ^ (t.qmin + (K : Int)) * 2) ≤ 2 ^ (t.prec - 1) * 2 ^ t.quantum m e := by gcongr
    linarith

/-! ## The rounded pattern -/

theorem withSign_mod_two (hp : 2 ≤ t.prec) (neg : Bool) (k s : Nat) :
    t.withSign neg (k * 2 ^ (t.prec - 1) + s) % 2 = s % 2 := by
  have hleft : 2 ∣ k * 2 ^ (t.prec - 1) := Dvd.dvd.mul_left (dvd_pow_self 2 (by omega)) k
  have hsign : 2 ∣ 2 ^ (t.prec - 1 + t.expBits) := dvd_pow_self 2 (by omega)
  cases neg <;> simp only [withSign, Bool.false_eq_true, if_false, if_true] <;> omega

variable (t) in
/-- The pattern `p`, standing for the finite number `r`, is `q` rounded to nearest, ties to even (R10). -/
structure RoundsAt (q : ℚ) (p : Nat) (r : ℚ) : Prop where
  hasValue : HasValue t p r
  nearest : ∀ v, t.Grid v → |r - q| ≤ |v - q|
  even : ∀ v, t.Grid v → v ≠ r → |r - q| = |v - q| → p % 2 = 0

namespace RoundsAt

variable {q r : ℚ} {p : Nat}

theorem nearestEven (h : t.RoundsAt q p r) : NearestEven t q r :=
  ⟨p, h.hasValue, fun _ v hv => ⟨h.nearest v (grid_of_hasValue hv), h.even v (grid_of_hasValue hv)⟩⟩

/-- A number of the format rounds to itself. -/
theorem eq_of_grid (h : t.RoundsAt q p r) (hq : t.Grid q) : r = q := by
  have := h.nearest q hq
  rw [sub_self, abs_zero, abs_nonpos_iff, sub_eq_zero] at this
  exact this

/-- Zero is a number of the format, which bounds how far rounding goes. -/
theorem abs_le_two_mul (h : t.RoundsAt q p r) : |r| ≤ 2 * |q| := by
  have hzero := h.nearest 0 grid_zero
  have hsplit := abs_sub_abs_le_abs_sub r q
  rw [zero_sub, abs_neg] at hzero
  linarith

end RoundsAt

theorem round_eq_withSign (neg : Bool) {m : Nat} {e : Int} (hm : m ≠ 0)
    (h : (t.quantum m e - t.qmin).toNat * 2 ^ (t.prec - 1) + t.significand m e < t.infMag) :
    t.round neg m e = t.withSign neg ((t.quantum m e - t.qmin).toNat * 2 ^ (t.prec - 1) + t.significand m e) := by
  simp only [round, roundMag, hm, if_false]
  exact congrArg _ (min_eq_left h.le)

/-- Up to the greatest finite number, `round` answers a finite number of the same sign, and that rounds the value. -/
theorem round_roundsAt (hp : 2 ≤ t.prec) (he : 2 ≤ t.expBits) (neg : Bool) {m : Nat} {e : Int}
    (h : |finValue neg m e| ≤ t.maxFinite) :
    ∃ m' e', t.num (t.round neg m e) = .fin neg m' e' ∧
      t.RoundsAt (finValue neg m e) (t.round neg m e) (finValue neg m' e') := by
  rcases eq_or_ne m 0 with rfl | hm
  · have hinf : 0 < t.infMag :=
      Nat.mul_pos (by have := Nat.pow_le_pow_right two_pos he; omega) (Nat.two_pow_pos _)
    have hnum := t.num_round_zero neg e hinf
    refine ⟨_, _, hnum, ⟨_, _, _, hnum, rfl⟩, fun v _ => by simp [finValue_eq], fun v _ hne heq => ?_⟩
    simp [finValue_eq] at hne heq
    exact absurd (abs_eq_zero.1 heq.symm) hne
  rw [abs_finValue] at h
  have hfield := field_lt_infMag he hm h
  rcases t.num_round neg e hm with ⟨hinf, -⟩ | ⟨m', e', hnum, hv⟩
  · exact absurd hinf hfield.not_ge
  have hparity : t.round neg m e % 2 = t.significand m e % 2 := by
    rw [round_eq_withSign neg hm hfield, withSign_mod_two hp]
  have hturn (v : ℚ) : |v - finValue neg m e| = |(if neg then -1 else 1) * v - m * 2 ^ e| := by
    cases neg
    · simp [finValue_eq]
    · rw [← abs_neg]
      simp [finValue_eq]
      ring_nf
  have hself : (if neg then -1 else 1) * finValue neg m' e' = t.significand m e * 2 ^ t.quantum m e := by
    rw [← hv]
    cases neg <;> simp [finValue_eq]
  have hgrid {v : ℚ} (h : t.Grid v) : t.Grid ((if neg then -1 else 1) * v) := by
    cases neg
    · simpa using h
    · simpa using h.neg
  refine ⟨m', e', hnum, ⟨_, _, _, hnum, rfl⟩, fun v hvg => ?_, fun v hvg hne heq => ?_⟩
  · rw [hturn, hturn, hself]
    exact (significand_nearest hm (hgrid hvg)).1
  · rw [hturn, hturn, hself] at heq
    rw [hparity]
    refine (significand_nearest hm (hgrid hvg)).2 (fun h => hne ?_) heq
    rw [← hself] at h
    cases neg <;> simpa using h

/-- A number of the format, of any representation, is rounded to itself. -/
theorem num_round_of_grid (hp : 2 ≤ t.prec) (he : 2 ≤ t.expBits) (neg : Bool) {m : Nat} {e : Int}
    (hgrid : t.Grid (finValue neg m e)) (h : |finValue neg m e| ≤ t.maxFinite) :
    ∃ m' e', t.num (t.round neg m e) = .fin neg m' e' ∧ finValue neg m' e' = finValue neg m e := by
  obtain ⟨m', e', hnum, hround⟩ := round_roundsAt hp he neg h
  exact ⟨m', e', hnum, hround.eq_of_grid hgrid⟩

/-! ## The value alone matters -/

theorem log2_add_congr {m m' : Nat} {e e' : Int} (hm : m ≠ 0) (hm' : m' ≠ 0) (h : (m : ℚ) * 2 ^ e = m' * 2 ^ e') :
    (Nat.log2 m : Int) + e = Nat.log2 m' + e' := by
  have hlt (n : Nat) (j : Int) : (n : ℚ) * 2 ^ j < 2 ^ ((Nat.log2 n : Int) + j + 1) := by
    have hlog : (n : ℚ) < 2 ^ ((Nat.log2 n : Int) + 1) := by exact_mod_cast Nat.lt_log2_self (n := n)
    calc (n : ℚ) * 2 ^ j < 2 ^ ((Nat.log2 n : Int) + 1) * 2 ^ j := by gcongr
      _ = 2 ^ ((Nat.log2 n : Int) + j + 1) := by rw [← zpow_add₀ two_ne_zero]; congr 1; ring
  have h1 := log2_add_lt hm (h ▸ hlt m' e')
  have h2 := log2_add_lt hm' (h ▸ hlt m e)
  omega

/-- Equal magnitudes, however written, round to the same pattern. -/
theorem roundMag_congr {m m' : Nat} {e e' : Int} (h : (m : ℚ) * 2 ^ e = m' * 2 ^ e') :
    t.roundMag m e = t.roundMag m' e' := by
  have hzero : m = 0 ↔ m' = 0 := by
    have := congrArg (· = 0) h
    simpa [zpow_ne_zero] using this
  unfold roundMag
  by_cases hm : m = 0
  · simp [hm, hzero.1 hm]
  have hm' := mt hzero.2 hm
  have hq : t.quantum m e = t.quantum m' e' := by rw [quantum, quantum, log2_add_congr hm hm' h]
  have hs : scaleNearestEven m (e - t.quantum m' e') = scaleNearestEven m' (e' - t.quantum m' e') := by
    apply scaleNearestEven_congr
    rw [zpow_sub₀ two_ne_zero, zpow_sub₀ two_ne_zero, ← mul_div_assoc, ← mul_div_assoc, h]
  simp only [hm, hm', if_false, hq, hs]

theorem round_congr (neg : Bool) {m m' : Nat} {e e' : Int} (h : (m : ℚ) * 2 ^ e = m' * 2 ^ e') :
    t.round neg m e = t.round neg m' e' := by
  rw [round, round, roundMag_congr h]

end FloatFormat

end Sys2Proof.Machine
end

section
/-!
PROOFS. Conversions between the two floats (40_conversion.md R105, R106), and which conversions draw (R107).
-/

namespace Sys2Proof.Machine
open Sys2Proof.Safety

/-! ## The numbers of binary32 and binary64 -/

theorem binary32_maxFinite : binary32.maxFinite = (2 ^ 24 - 1) * 2 ^ (104 : Int) := by
  norm_num [FloatFormat.maxFinite, binary32]

theorem binary64_maxFinite : binary64.maxFinite = (2 ^ 53 - 1) * 2 ^ (971 : Int) := by
  rw [FloatFormat.maxFinite, show binary64.qmin + (2 ^ binary64.expBits - 3 : Nat) = 971 from rfl]
  norm_num [binary64]

theorem two_pow_1000_le_maxFinite : (2 : ℚ) ^ 1000 ≤ binary64.maxFinite := by
  have hsplit : (2 : ℚ) ^ 1000 = 2 ^ 29 * 2 ^ (971 : Int) := by
    rw [← zpow_natCast, ← zpow_natCast, ← zpow_add₀ two_ne_zero]
    rfl
  rw [binary64_maxFinite, hsplit]
  gcongr
  norm_num

/-- A significand of 53 bits at a weight of binary64. -/
theorem grid_binary64 {v : ℚ} {n k : Int} (hv : v = n * 2 ^ k) (hn : |n| ≤ 2 ^ 53) (hk : -1074 ≤ k) :
    binary64.Grid v :=
  FloatFormat.grid_of_abs_le hv hn hk

/-- Every finite binary32 number is a binary64 number. -/
theorem grid_binary64_of_binary32 {p : Nat} {v : ℚ} (h : HasValue binary32 p v) :
    binary64.Grid v ∧ |v| ≤ binary64.maxFinite := by
  obtain ⟨n, k, hn, hk, hv⟩ := FloatFormat.grid_of_hasValue h
  change |n| < 2 * 2 ^ 23 at hn
  change -149 ≤ k at hk
  refine ⟨grid_binary64 hv (by omega) (by omega), (FloatFormat.abs_le_maxFinite_of_hasValue h).trans ?_⟩
  rw [binary32_maxFinite, binary64_maxFinite]
  gcongr <;> norm_num

/-! ## Signs -/

theorem negOf_of_num_eq_inf {t : FloatFormat} {p : Nat} {neg : Bool} (h : t.num p = .inf neg) : t.negOf p = neg := by
  simp only [FloatFormat.num] at h
  split_ifs at h
  cases h
  rfl

theorem negOf_of_num_eq_fin {t : FloatFormat} {p m : Nat} {neg : Bool} {e : Int} (h : t.num p = .fin neg m e) :
    t.negOf p = neg := by
  simp only [FloatFormat.num] at h
  split_ifs at h <;> cases h <;> rfl

/-- The sign of a pattern of the format's width is its top bit. -/
theorem FloatFormat.div_eq_of_negOf {t : FloatFormat} {p : Nat} {neg : Bool} (hp : p < 2 ^ (t.prec - 1 + t.expBits + 1))
    (h : t.negOf p = neg) : p / 2 ^ (t.prec - 1 + t.expBits) = neg.toNat := by
  have hlt : p / 2 ^ (t.prec - 1 + t.expBits) < 2 := Nat.div_lt_of_lt_mul (by rwa [← Nat.pow_succ])
  rw [negOf, Nat.mod_eq_of_lt hlt] at h
  generalize p / 2 ^ (t.prec - 1 + t.expBits) = b at *
  subst h
  interval_cases b <;> rfl

theorem negOf_round (t : FloatFormat) (neg : Bool) (m : Nat) (e : Int) : t.negOf (t.round neg m e) = neg := by
  apply t.negOf_withSign
  unfold FloatFormat.roundMag
  split_ifs
  · exact Nat.zero_le _
  · exact min_le_right _ _

theorem finValue_pos_sign {neg : Bool} {m : Nat} {e : Int} (h : 0 < finValue neg m e) : neg = false := by
  have hpos : (0 : ℚ) ≤ m * 2 ^ e := by positivity
  cases neg
  · rfl
  · rw [finValue_eq, if_pos rfl] at h
    linarith

theorem finValue_neg_sign {neg : Bool} {m : Nat} {e : Int} (h : finValue neg m e < 0) : neg = true := by
  have hpos : (0 : ℚ) ≤ m * 2 ^ e := by positivity
  cases neg
  · rw [finValue_eq] at h
    simp at h
    linarith
  · rfl

/-! ## From binary32 to binary64 (R105) -/

theorem conv_f32_f64 (v k : Nat) : conv .f32 .f64 v k = (f32ToF64 v).getD (nanDraw .f64 k) :=
  conv_floatToFloat rfl rfl (by decide) v k

theorem f32ToF64_of_nan {v : Nat} (h : binary32.num v = .nan) : f32ToF64 v = none := by
  rw [f32ToF64, h]

theorem f32ToF64_of_inf {v : Nat} {neg : Bool} (h : binary32.num v = .inf neg) :
    f32ToF64 v = some (binary64.withSign neg binary64.infMag) := by
  rw [f32ToF64, h]

theorem f32ToF64_of_fin {v m : Nat} {neg : Bool} {e : Int} (h : binary32.num v = .fin neg m e) :
    f32ToF64 v = some (binary64.round neg m e) := by
  rw [f32ToF64, h]

/-- Setting the exponent field and the quiet bit makes a NaN. -/
theorem num_or_quietNan (x : Bus) : binary64.num (x ||| 0x7FF8000000000000#64).toNat = .nan := by
  have hfield : (x ||| 0x7FF8000000000000#64).toNat / 2 ^ 51 % 2 ^ 12 = 4095 := by
    have hsplit : (x ||| 0x7FF8000000000000#64).toNat / 2 ^ 51 % 2 ^ 12 = x.toNat / 2 ^ 51 % 2 ^ 12 ||| 4095 := by
      rw [BitVec.toNat_or, Nat.or_div_two_pow, Nat.or_mod_two_pow]
      rfl
    have hlt : x.toNat / 2 ^ 51 % 2 ^ 12 ||| 4095 < 2 ^ 12 :=
      Nat.or_lt_two_pow (Nat.mod_lt _ (by decide)) (by decide)
    have hge : 4095 ≤ x.toNat / 2 ^ 51 % 2 ^ 12 ||| 4095 := Nat.right_le_or
    omega
  have hexp : binary64.magOf (x ||| 0x7FF8000000000000#64).toNat / 2 ^ 52 = 2 ^ 11 - 1 := by
    change (x ||| 0x7FF8000000000000#64).toNat % 2 ^ 63 / 2 ^ 52 = 2 ^ 11 - 1
    omega
  have hfrac : binary64.magOf (x ||| 0x7FF8000000000000#64).toNat % 2 ^ 52 ≠ 0 := by
    change (x ||| 0x7FF8000000000000#64).toNat % 2 ^ 63 % 2 ^ 52 ≠ 0
    omega
  exact (if_pos hexp).trans (if_neg hfrac)

/-- A binary64 draw is a NaN (R107). -/
theorem num_nanDraw_f64 (k : Nat) : binary64.num (nanDraw .f64 k) = .nan := by
  simp only [nanDraw]
  split_ifs with h
  · exact h
  · exact num_or_quietNan _

/-! ## From binary64 to binary32 (R106) -/

theorem conv_f64_f32 (v k : Nat) : conv .f64 .f32 v k = (f64ToF32 v).getD (nanDraw .f32 k) :=
  conv_floatToFloat rfl rfl (by decide) v k

theorem f64ToF32_of_nan {v : Nat} (h : binary64.num v = .nan) : f64ToF32 v = none := by
  rw [f64ToF32, h]

theorem f64ToF32_of_inf {v : Nat} {neg : Bool} (h : binary64.num v = .inf neg) :
    f64ToF32 v = some (binary32.withSign neg fltMaxMag) := by
  rw [f64ToF32, h]

/-- Above FLT_MAX, below its negative, and between them. -/
theorem f64ToF32_of_fin {v m : Nat} {neg : Bool} {e : Int} (h : binary64.num v = .fin neg m e) :
    (binary32.maxFinite < finValue neg m e ∧ f64ToF32 v = some (binary32.withSign false fltMaxMag)) ∨
    (finValue neg m e < -binary32.maxFinite ∧ f64ToF32 v = some (binary32.withSign true fltMaxMag)) ∨
    (|finValue neg m e| ≤ binary32.maxFinite ∧ f64ToF32 v = some (binary32.round neg m e)) := by
  have hgt : finGt neg m e (2 ^ 24 - 1) 104 = true ↔ binary32.maxFinite < finValue neg m e := by
    rw [finGt_iff, binary32_maxFinite]
    norm_num
  have hlt : finLt neg m e (-(2 ^ 24 - 1)) 104 = true ↔ finValue neg m e < -binary32.maxFinite := by
    rw [finLt_iff, binary32_maxFinite]
    norm_num
  simp only [f64ToF32, h]
  split_ifs with h1 h2
  · exact .inl ⟨hgt.1 h1, rfl⟩
  · exact .inr (.inl ⟨hlt.1 h2, rfl⟩)
  · refine .inr (.inr ⟨abs_le.2 ⟨not_lt.1 (mt hlt.2 h2), not_lt.1 (mt hgt.2 h1)⟩, rfl⟩)

/-- Up to FLT_MAX the result is the value rounded to binary32. -/
theorem conv_f64_f32_of_abs_le {v m : Nat} {neg : Bool} {e : Int} (h : binary64.num v = .fin neg m e)
    (hle : |finValue neg m e| ≤ binary32.maxFinite) (k : Nat) :
    conv .f64 .f32 v k = binary32.round neg m e := by
  rw [conv_f64_f32]
  obtain ⟨hl, hu⟩ := abs_le.1 hle
  rcases f64ToF32_of_fin h with ⟨hgt, -⟩ | ⟨hlt, -⟩ | ⟨-, hr⟩
  · exact absurd hgt hu.not_gt
  · exact absurd hlt hl.not_gt
  · rw [hr]
    rfl

/-- Whatever is no NaN keeps its sign, underflows and the clamp included. -/
theorem negOf_of_f64ToF32_eq_some {v p : Nat} (h : f64ToF32 v = some p) : binary32.negOf p = binary64.negOf v := by
  have hmax (neg : Bool) : binary32.negOf (binary32.withSign neg fltMaxMag) = neg :=
    binary32.negOf_withSign neg (by decide)
  have hpos : 0 < binary32.maxFinite := by rw [binary32_maxFinite]; norm_num
  cases hnum : binary64.num v with
  | nan => rw [f64ToF32_of_nan hnum] at h; cases h
  | inf neg =>
    rw [f64ToF32_of_inf hnum] at h
    cases h
    rw [hmax, negOf_of_num_eq_inf hnum]
  | fin neg m e =>
    rw [negOf_of_num_eq_fin hnum]
    rcases f64ToF32_of_fin hnum with ⟨hgt, hr⟩ | ⟨hlt, hr⟩ | ⟨-, hr⟩ <;> rw [hr] at h <;> cases h
    · rw [hmax, finValue_pos_sign (hpos.trans hgt)]
    · rw [hmax, finValue_neg_sign (hlt.trans (neg_neg_of_pos hpos))]
    · exact negOf_round _ _ _ _

theorem f64ToF32_eq_none_iff (v : Nat) : f64ToF32 v = none ↔ binary64.num v = .nan := by
  cases hnum : binary64.num v with
  | nan => simp [f64ToF32_of_nan hnum]
  | inf neg => simp [f64ToF32_of_inf hnum]
  | fin neg m e => rcases f64ToF32_of_fin hnum with ⟨-, hr⟩ | ⟨-, hr⟩ | ⟨-, hr⟩ <;> simp [hr]

theorem f32ToF64_eq_none_iff (v : Nat) : f32ToF64 v = none ↔ binary32.num v = .nan := by
  cases hnum : binary32.num v with
  | nan => simp [f32ToF64_of_nan hnum]
  | inf neg => simp [f32ToF64_of_inf hnum]
  | fin neg m e => simp [f32ToF64_of_fin hnum]

end Sys2Proof.Machine

namespace Sys2Proof
open Machine Safety

/-- Settles O34: an f32 number is a binary64 number, which rounding keeps, and the draw for a NaN is one. -/
theorem f32ToF64IsExact : Obligations.F32ToF64IsExact := by
  intro x k
  refine ⟨fun neg h => ?_, fun neg m e h => ?_, fun h => ?_⟩
  · rw [conv_f32_f64, f32ToF64_of_inf h]
    exact binary64.num_withSign_infMag neg
  · rw [conv_f32_f64, f32ToF64_of_fin h]
    obtain ⟨hgrid, hle⟩ := grid_binary64_of_binary32 ⟨neg, m, e, h, rfl⟩
    exact FloatFormat.num_round_of_grid (by decide) (by decide) neg hgrid hle
  · rw [conv_f32_f64, f32ToF64_of_nan h]
    exact num_nanDraw_f64 k

/-- Settles O35: the clamp beyond FLT_MAX, and up to it the rounding, which is finite and nearest. -/
theorem f64ToF32ClampsAndRoundsToNearest : Obligations.F64ToF32ClampsAndRoundsToNearest := by
  intro x k
  have hmax : binary32.maxFinite = (2 ^ 24 - 1) * 2 ^ 104 := by rw [binary32_maxFinite]; norm_num
  have hpos : 0 < binary32.maxFinite := by rw [hmax]; norm_num
  rw [← hmax]
  refine ⟨fun h => ?_, fun h => ?_, ?_, fun h => ?_⟩
  · rw [conv_f64_f32, f64ToF32_of_inf h]
    rfl
  · rw [conv_f64_f32, f64ToF32_of_inf h]
    rfl
  · rintro q ⟨neg, m, e, h, rfl⟩
    refine ⟨fun hgt => ?_, fun hlt => ?_, fun hl hu => ?_⟩
    · rw [conv_f64_f32]
      rcases f64ToF32_of_fin h with ⟨-, hr⟩ | ⟨hlt, -⟩ | ⟨hle, -⟩
      · rw [hr]
        rfl
      · linarith
      · linarith [(abs_le.1 hle).2]
    · rw [conv_f64_f32]
      rcases f64ToF32_of_fin h with ⟨hgt, -⟩ | ⟨-, hr⟩ | ⟨hle, -⟩
      · linarith
      · rw [hr]
        rfl
      · linarith [(abs_le.1 hle).1]
    · have hle := abs_le.2 ⟨hl, hu⟩
      rw [conv_f64_f32_of_abs_le h hle]
      obtain ⟨m', e', -, hround⟩ := FloatFormat.round_roundsAt (t := binary32) (by decide) (by decide) neg hle
      exact ⟨_, hround.hasValue, fun y v hv =>
        have hgrid := FloatFormat.grid_of_hasValue hv
        ⟨hround.nearest v hgrid, hround.even v hgrid⟩⟩
  · obtain ⟨p, hp⟩ := Option.ne_none_iff_exists'.1 (mt (f64ToF32_eq_none_iff _).1 h)
    rw [conv_f64_f32, hp, Option.getD_some]
    have htop := FloatFormat.div_eq_of_negOf (t := binary32) (f64ToF32_lt hp) rfl
    have htop' := FloatFormat.div_eq_of_negOf (t := binary64) (unbus_lt .f64 x) rfl
    rw [negOf_of_f64ToF32_eq_some hp] at htop
    exact htop.trans htop'.symm

end Sys2Proof
end

section
/-!
PROOFS. From a float to an integer (40_conversion.md R100 to R102): the formula as six rounded operations, its clamp and
its truncation; where no operation rounds it is the exact map. And which conversions draw (R107).
-/

namespace Sys2Proof.Machine
open Sys2Proof.Safety

/-! ## Truncation toward zero -/

/-- The integer part, rounded toward zero (R10). -/
def truncate (c : ℚ) : Int :=
  if 0 ≤ c then ⌊c⌋ else ⌈c⌉

theorem truncate_intCast (n : Int) : truncate n = n := by
  simp [truncate]

theorem le_truncate {n : Int} {c : ℚ} (h : n ≤ c) : n ≤ truncate c := by
  unfold truncate
  split_ifs
  · exact Int.le_floor.2 h
  · exact_mod_cast h.trans (Int.le_ceil c)

theorem truncate_le {n : Int} {c : ℚ} (h : c ≤ n) : truncate c ≤ n := by
  unfold truncate
  split_ifs
  · exact_mod_cast (Int.floor_le c).trans h
  · exact Int.ceil_le.2 h

/-- Truncation hides a clamp that moves less than one, from above. -/
theorem truncate_clamp {lo hi : Int} {c : ℚ} (hhi : 0 ≤ hi) (hle : lo ≤ hi) (hl : lo ≤ c) (hu : c < hi + 1) :
    truncate (max lo (min hi c)) = truncate c := by
  rcases le_or_gt c hi with h | h
  · rw [min_eq_right h, max_eq_right hl]
  · have hc : 0 ≤ c := (by exact_mod_cast hhi : (0 : ℚ) ≤ hi).trans h.le
    rw [min_eq_left h.le, max_eq_right (by exact_mod_cast hle), truncate_intCast, truncate, if_pos hc, eq_comm,
      Int.floor_eq_iff]
    exact ⟨h.le, hu⟩

/-! ## Numbers with a value -/

/-- The datum is the finite number `v`. -/
def Num.Denotes (x : Num) (v : ℚ) : Prop :=
  ∃ neg m e, x = .fin neg m e ∧ finValue neg m e = v

/-- `r` is some pattern's finite number, and `q` rounded to nearest, ties to even. -/
def FloatFormat.RoundsTo (t : FloatFormat) (q r : ℚ) : Prop :=
  ∃ p, t.RoundsAt q p r

theorem FloatFormat.RoundsTo.nearestEven {t : FloatFormat} {q r : ℚ} (h : t.RoundsTo q r) : NearestEven t q r := by
  obtain ⟨p, h⟩ := h
  exact h.nearestEven

theorem FloatFormat.RoundsTo.eq_of_grid {t : FloatFormat} {q r : ℚ} (h : t.RoundsTo q r) (hq : t.Grid q) : r = q := by
  obtain ⟨p, h⟩ := h
  exact h.eq_of_grid hq

theorem FloatFormat.RoundsTo.abs_le_two_mul {t : FloatFormat} {q r : ℚ} (h : t.RoundsTo q r) : |r| ≤ 2 * |q| := by
  obtain ⟨p, h⟩ := h
  exact h.abs_le_two_mul

theorem round64_denotes {neg : Bool} {m : Nat} {e : Int} {q : ℚ} (hq : finValue neg m e = q) (h : |q| ≤ 2 ^ 1000) :
    ∃ r, (round64 neg m e).Denotes r ∧ binary64.RoundsTo q r := by
  subst hq
  obtain ⟨m', e', hnum, hround⟩ := FloatFormat.round_roundsAt (t := binary64) (by decide) (by decide) neg
    (h.trans two_pow_1000_le_maxFinite)
  exact ⟨_, ⟨_, _, _, hnum, rfl⟩, _, hround⟩

/-- Integers of up to 32 bits are exact in binary64 (R101). -/
theorem numOfInt_denotes {v : Int} (h : |v| ≤ 2 ^ 32) : (numOfInt v).Denotes v := by
  have hv : finValue (decide (v < 0)) v.natAbs 0 = v := by simp [finValue_natAbs]
  have hbound : |(v : ℚ)| ≤ 2 ^ 1000 := by
    have : |(v : ℚ)| ≤ 2 ^ 32 := by exact_mod_cast h
    exact this.trans (pow_le_pow_right₀ one_le_two (by decide))
  obtain ⟨r, hr, hround⟩ := round64_denotes hv hbound
  rwa [hround.eq_of_grid (grid_binary64 (k := 0) (by simp) (h.trans (by decide)) (by decide))] at hr

namespace Num.Denotes

variable {a b : Num} {u v : ℚ}

theorem neg (h : a.Denotes u) : a.neg.Denotes (-u) := by
  obtain ⟨n, m, e, rfl, rfl⟩ := h
  exact ⟨_, _, _, rfl, by cases n <;> simp [finValue_eq]⟩

theorem add (ha : a.Denotes u) (hb : b.Denotes v) (h : |u + v| ≤ 2 ^ 1000) :
    ∃ r, (a.add b).Denotes r ∧ binary64.RoundsTo (u + v) r := by
  obtain ⟨n1, m1, e1, rfl, rfl⟩ := ha
  obtain ⟨n2, m2, e2, rfl, rfl⟩ := hb
  obtain ⟨n, m, e, hround, hv⟩ := Num.add_fin n1 n2 m1 m2 e1 e2
  rw [hround]
  exact round64_denotes hv h

theorem sub (ha : a.Denotes u) (hb : b.Denotes v) (h : |u - v| ≤ 2 ^ 1000) :
    ∃ r, (a.sub b).Denotes r ∧ binary64.RoundsTo (u - v) r := by
  rw [sub_eq_add_neg] at h ⊢
  exact ha.add hb.neg h

theorem mul (ha : a.Denotes u) (hb : b.Denotes v) (h : |u * v| ≤ 2 ^ 1000) :
    ∃ r, (a.mul b).Denotes r ∧ binary64.RoundsTo (u * v) r := by
  obtain ⟨n1, m1, e1, rfl, rfl⟩ := ha
  obtain ⟨n2, m2, e2, rfl, rfl⟩ := hb
  exact round64_denotes (finValue_mul n1 n2 m1 m2 e1 e2) h

theorem lt_iff (h : a.Denotes u) (n : Int) : a.lt n 0 = true ↔ u < n := by
  obtain ⟨neg, m, e, rfl, rfl⟩ := h
  rw [Num.lt, finLt_iff, zpow_zero, mul_one]

theorem gt_iff (h : a.Denotes u) (n : Int) : a.gt n 0 = true ↔ n < u := by
  obtain ⟨neg, m, e, rfl, rfl⟩ := h
  rw [Num.gt, finGt_iff, zpow_zero, mul_one]

/-- The model's truncation is the one toward zero. -/
theorem trunc_eq (h : a.Denotes u) : a.trunc = some (truncate u) := by
  obtain ⟨neg, m, e, rfl, rfl⟩ := h
  have hfloor : (((if 0 ≤ e then m * 2 ^ e.toNat else m / 2 ^ (-e).toNat : Nat)) : Int) = ⌊(m : ℚ) * 2 ^ e⌋ := by
    split_ifs with he
    · lift e to Nat using he
      exact_mod_cast (Int.floor_natCast (R := ℚ) (m * 2 ^ e)).symm
    · obtain ⟨k, rfl⟩ : ∃ k : Nat, e = -k := ⟨(-e).toNat, by omega⟩
      rw [zpow_neg, zpow_natCast, ← div_eq_mul_inv, neg_neg, Int.toNat_natCast]
      exact_mod_cast (Rat.floor_natCast_div_natCast m (2 ^ k)).symm
  have hpos : (0 : ℚ) ≤ m * 2 ^ e := by positivity
  rw [Num.trunc, Option.some_inj, truncate, finValue_eq]
  generalize (if 0 ≤ e then m * 2 ^ e.toNat else m / 2 ^ (-e).toNat) = f at hfloor ⊢
  generalize (m : ℚ) * 2 ^ e = c at hfloor hpos ⊢
  cases neg
  · simpa [signed, hpos] using hfloor
  · rcases hpos.lt_or_eq with hlt | rfl
    · simp [signed, hlt.not_ge, Int.ceil_neg, hfloor]
    · simpa [signed] using hfloor

end Num.Denotes

/-! ## The formula's steps (R101) -/

/-- The six operations of R101 on the value `v`, each rounded to binary64. -/
structure AffineSteps (d : Rep) (v t1 t3 t4 t5 t6 y : ℚ) : Prop where
  plus : binary64.RoundsTo (v + 1) t1
  timesMax : binary64.RoundsTo (t1 * (d.maxInt + 1)) t3
  minus : binary64.RoundsTo (1 - v) t4
  timesMin : binary64.RoundsTo (t4 * d.minInt) t5
  sum : binary64.RoundsTo (t3 + t5) t6
  half : binary64.RoundsTo (1 / 2 * t6) y

theorem abs_range_le {d : Rep} (hd : d.isFloat = false) :
    |d.minInt| ≤ 2 ^ 32 ∧ |d.maxInt| ≤ 2 ^ 32 ∧ |d.maxInt + 1| ≤ 2 ^ 32 := by
  revert hd
  cases d <;> decide

theorem numOf_one_denotes : (numOf 1 0).Denotes 1 := by
  rw [numOf_one]
  exact ⟨_, _, _, rfl, by norm_num [finValue, signed]⟩

theorem numOf_half_denotes : (numOf 1 (-1)).Denotes (1 / 2) := by
  rw [numOf_half]
  exact ⟨_, _, _, rfl, by norm_num [finValue, signed]⟩

/-- Up to 2^900 no operation overflows: each at most doubles, or multiplies by at most 2^33. -/
theorem affineMap_steps {d : Rep} (hd : d.isFloat = false) {w : Num} {v : ℚ} (hw : w.Denotes v) (hv : |v| ≤ 2 ^ 900) :
    ∃ t1 t3 t4 t5 t6 y, AffineSteps d v t1 t3 t4 t5 t6 y ∧ (affineMap d w).Denotes y := by
  obtain ⟨hmin, -, hmax⟩ := abs_range_le hd
  have hminInt : |(d.minInt : ℚ)| ≤ 2 ^ 32 := by exact_mod_cast hmin
  have hmaxInt : |(d.maxInt : ℚ) + 1| ≤ 2 ^ 32 := by exact_mod_cast hmax
  have hbot := numOfInt_denotes hmin
  have htop := numOfInt_denotes hmax
  push_cast at htop
  have hone : (1 : ℚ) ≤ 2 ^ 900 := one_le_pow₀ one_le_two
  have hsplit : (2 : ℚ) ^ 1000 = 2 ^ 100 * 2 ^ 900 := by rw [← pow_add]
  have hadd := @Num.Denotes.add
  have hsub := @Num.Denotes.sub
  have hmul := @Num.Denotes.mul
  rw [hsplit] at hadd hsub hmul
  clear hsplit
  generalize (2 : ℚ) ^ 900 = B at *
  have hprod {a c A : ℚ} (ha : |a| ≤ A) (hc : |c| ≤ 2 ^ 32) : |a * c| ≤ A * 2 ^ 32 := by
    rw [abs_mul]
    exact mul_le_mul ha hc (abs_nonneg c) ((abs_nonneg a).trans ha)
  have hq1 : |v + 1| ≤ 2 * B := (abs_add_le v 1).trans (by rw [abs_one]; linarith)
  obtain ⟨t1, h1, r1⟩ := hadd hw numOf_one_denotes (by linarith)
  have ht1 : |t1| ≤ 4 * B := by linarith [r1.abs_le_two_mul]
  have hq3 := hprod ht1 hmaxInt
  obtain ⟨t3, h3, r3⟩ := hmul h1 htop (by linarith)
  have hq4 : |1 - v| ≤ 2 * B := (abs_sub 1 v).trans (by rw [abs_one]; linarith)
  obtain ⟨t4, h4, r4⟩ := hsub numOf_one_denotes hw (by linarith)
  have ht4 : |t4| ≤ 4 * B := by linarith [r4.abs_le_two_mul]
  have hq5 := hprod ht4 hminInt
  obtain ⟨t5, h5, r5⟩ := hmul h4 hbot (by linarith)
  have hq6 : |t3 + t5| ≤ 16 * B * 2 ^ 32 :=
    (abs_add_le t3 t5).trans (by linarith [r3.abs_le_two_mul, r5.abs_le_two_mul])
  obtain ⟨t6, h6, r6⟩ := hadd h3 h5 (by linarith)
  have hqy : |1 / 2 * t6| ≤ 16 * B * 2 ^ 32 := by
    rw [abs_mul, abs_of_pos (by norm_num : (0 : ℚ) < 1 / 2)]
    linarith [r6.abs_le_two_mul]
  obtain ⟨y, hy, ry⟩ := hmul numOf_half_denotes h6 (by linarith)
  exact ⟨t1, t3, t4, t5, t6, y, ⟨r1, r3, r4, r5, r6, ry⟩, hy⟩

/-- The clamp and the truncation of a finite number. -/
theorem clampTrunc_of_denotes {d : Rep} (hd : d.isFloat = false) {x : Num} {y : ℚ} (h : x.Denotes y) :
    clampTrunc d x = some (truncate (max d.minInt (min d.maxInt y))) := by
  have hle : (d.minInt : ℚ) ≤ d.maxInt := by exact_mod_cast (minInt_lt_maxInt d).le
  obtain ⟨hmin, hmax, -⟩ := abs_range_le hd
  have hbot := numOfInt_denotes hmin
  have htop := numOfInt_denotes hmax
  have hlow : (if x.lt d.minInt 0 then numOfInt d.minInt else x).Denotes (max d.minInt y) := by
    split_ifs with hlt
    · rwa [max_eq_left ((h.lt_iff _).1 hlt).le]
    · rwa [max_eq_right (not_lt.1 (mt (h.lt_iff _).2 hlt))]
  unfold clampTrunc
  generalize (if x.lt d.minInt 0 then numOfInt d.minInt else x) = z at hlow
  have hclamped : (if z.gt d.maxInt 0 then numOfInt d.maxInt else z).Denotes (min d.maxInt (max d.minInt y)) := by
    split_ifs with hgt
    · rwa [min_eq_left ((hlow.gt_iff _).1 hgt).le]
    · rwa [min_eq_right (not_lt.1 (mt (hlow.gt_iff _).2 hgt))]
  rw [max_min_distrib_left, max_eq_right hle]
  exact hclamped.trunc_eq

/-- R101 on a finite float up to 2^900: the rounded steps, the clamp, the truncation. -/
theorem intOf_conv_steps {s d : Rep} (hs : s.isFloat = true) (hd : d.isFloat = false) {p : Nat} {v : ℚ}
    (hp : HasValue (floatFormat s) p v) (hv : |v| ≤ 2 ^ 900) (k : Nat) :
    ∃ t1 t3 t4 t5 t6 y, AffineSteps d v t1 t3 t4 t5 t6 y ∧
      d.intOf (conv s d p k) = truncate (max d.minInt (min d.maxInt y)) := by
  obtain ⟨neg, m, e, hnum, hvalue⟩ := hp
  obtain ⟨t1, t3, t4, t5, t6, y, hsteps, hy⟩ := affineMap_steps hd ⟨neg, m, e, rfl, hvalue⟩ hv
  have hle : (d.minInt : ℚ) ≤ d.maxInt := by exact_mod_cast (minInt_lt_maxInt d).le
  exact ⟨t1, t3, t4, t5, t6, y, hsteps, intOf_conv_of_clampTrunc hs hd hnum (clampTrunc_of_denotes hd hy)
    (le_truncate (le_max_left _ _)) (truncate_le (max_le hle (min_le_left _ _)))⟩

/-! ## Where no step rounds (R100) -/

/-- R100's map: from [−1, 1) onto the range of the representation. -/
def exactMap (d : Rep) (q : ℚ) : ℚ :=
  if d.isSigned then q * 2 ^ (d.width - 1) else (q + 1) * 2 ^ (d.width - 1)

theorem two_pow_topExp_of_unsigned {d : Rep} (h : d.isSigned = false) :
    (2 : ℚ) ^ topExp d = 2 * 2 ^ (d.width - 1) := by
  rw [topExp, h]
  exact_mod_cast d.two_pow_width

theorem exactMap_eq (d : Rep) (q : ℚ) :
    exactMap d q = 1 / 2 * ((q + 1) * (d.maxInt + 1) + (1 - q) * d.minInt) := by
  have hmax : (d.maxInt : ℚ) + 1 = 2 ^ topExp d := by exact_mod_cast maxInt_add_one d
  rw [hmax, minInt_eq, exactMap]
  cases h : d.isSigned
  · rw [two_pow_topExp_of_unsigned h]
    simp
    ring
  · simp [topExp, h]
    ring

/-- A significand of 53 bits at a weight from 2^−53 on. -/
theorem grid_binary64_of_scaled {v : ℚ} {n : Int} {j : Nat} (h : v * 2 ^ 53 = n * 2 ^ j) (hn : |n| ≤ 2 ^ 53) :
    binary64.Grid v := by
  refine grid_binary64 (k := (j : Int) - 53) ?_ hn (by omega)
  rw [zpow_sub₀ two_ne_zero, zpow_natCast, ← mul_div_assoc, ← h]
  norm_num

/-- On the grid of 2^−52 every intermediate number has at most 53 bits. -/
theorem AffineSteps.eq_exactMap {d : Rep} {q t1 t3 t4 t5 t6 y : ℚ} {n : Int}
    (h : AffineSteps d q t1 t3 t4 t5 t6 y) (hl : -1 ≤ q) (hu : q ≤ 1) (hn : q * 2 ^ 52 = n) : y = exactMap d q := by
  have hmax : (d.maxInt : ℚ) + 1 = 2 ^ topExp d := by exact_mod_cast maxInt_add_one d
  have hmin : (d.minInt : ℚ) = if d.isSigned then -2 ^ topExp d else 0 := by
    rw [minInt_eq]
    split_ifs <;> simp
  obtain ⟨hnl, hnu⟩ : -2 ^ 52 ≤ n ∧ n ≤ 2 ^ 52 := by
    have hbound : -2 ^ 52 ≤ (n : ℚ) ∧ (n : ℚ) ≤ 2 ^ 52 := by constructor <;> linarith
    exact_mod_cast hbound
  have hbits : |n| ≤ 2 ^ 53 := by rw [abs_le]; omega
  have hplus : |n + 2 ^ 52| ≤ 2 ^ 53 := by rw [abs_le]; omega
  have hminus : |n - 2 ^ 52| ≤ 2 ^ 53 := by rw [abs_le]; omega
  have e1 : t1 = q + 1 := by
    apply h.plus.eq_of_grid
    refine grid_binary64_of_scaled (j := 1) ?_ hplus
    push_cast
    linear_combination 2 * hn
  have e4 : t4 = 1 - q := by
    apply h.minus.eq_of_grid
    refine grid_binary64_of_scaled (n := 2 ^ 52 - n) (j := 1) ?_ (by rwa [abs_sub_comm])
    push_cast
    linear_combination -2 * hn
  have e3 : t3 = (q + 1) * (d.maxInt + 1) := by
    rw [← e1]
    apply h.timesMax.eq_of_grid
    rw [e1, hmax]
    refine grid_binary64_of_scaled (j := topExp d + 1) ?_ hplus
    push_cast
    linear_combination 2 * 2 ^ topExp d * hn
  have e5 : t5 = (1 - q) * d.minInt := by
    rw [← e4]
    apply h.timesMin.eq_of_grid
    rw [e4, hmin]
    split_ifs
    · refine grid_binary64_of_scaled (j := topExp d + 1) ?_ hminus
      push_cast
      linear_combination 2 * 2 ^ topExp d * hn
    · simpa using FloatFormat.grid_zero
  have e6 : t6 = (q + 1) * (d.maxInt + 1) + (1 - q) * d.minInt := by
    rw [← e3, ← e5]
    apply h.sum.eq_of_grid
    rw [e3, e5, hmax, hmin]
    split_ifs
    · refine grid_binary64_of_scaled (j := topExp d + 2) ?_ hbits
      linear_combination 4 * 2 ^ topExp d * hn
    · refine grid_binary64_of_scaled (j := topExp d + 1) ?_ hplus
      push_cast
      linear_combination 2 * 2 ^ topExp d * hn
  rw [exactMap_eq, ← e6]
  apply h.half.eq_of_grid
  rw [e6, ← exactMap_eq, exactMap]
  split_ifs
  · refine grid_binary64_of_scaled (j := d.width - 1 + 1) ?_ hbits
    linear_combination 2 * 2 ^ (d.width - 1) * hn
  · refine grid_binary64_of_scaled (j := d.width - 1 + 1) ?_ hplus
    push_cast
    linear_combination 2 * 2 ^ (d.width - 1) * hn

/-- The exact map takes [−1, 1) into [min, max + 1). -/
theorem exactMap_range (d : Rep) {q : ℚ} (hl : -1 ≤ q) (hu : q < 1) :
    d.minInt ≤ exactMap d q ∧ exactMap d q < d.maxInt + 1 := by
  have hmax : (d.maxInt : ℚ) + 1 = 2 ^ topExp d := by exact_mod_cast maxInt_add_one d
  have hpos : (0 : ℚ) < 2 ^ (d.width - 1) := by positivity
  rw [hmax, minInt_eq, exactMap]
  cases h : d.isSigned
  · rw [two_pow_topExp_of_unsigned h]
    simp only [Bool.false_eq_true, if_false, Int.cast_zero]
    constructor <;> nlinarith
  · simp only [topExp, h, if_true]
    push_cast
    constructor <;> nlinarith

theorem maxInt_nonneg (d : Rep) : 0 ≤ d.maxInt := by
  cases d <;> decide

/-- On the grid of 2^−52 in [−1, 1) the result is the exact map, truncated. -/
theorem intOf_conv_eq_truncate_exactMap {s d : Rep} (hs : s.isFloat = true) (hd : d.isFloat = false) {p : Nat} {q : ℚ}
    {n : Int} (hp : HasValue (floatFormat s) p q) (hl : -1 ≤ q) (hu : q < 1) (hn : q * 2 ^ 52 = n) (k : Nat) :
    d.intOf (conv s d p k) = truncate (exactMap d q) := by
  have hv : |q| ≤ 2 ^ 900 := (abs_le.2 ⟨hl, hu.le⟩).trans (one_le_pow₀ one_le_two)
  obtain ⟨t1, t3, t4, t5, t6, y, hsteps, hresult⟩ := intOf_conv_steps hs hd hp hv k
  obtain ⟨hmin, hmax⟩ := exactMap_range d hl hu
  rw [hresult, hsteps.eq_exactMap hl hu.le hn, truncate_clamp (maxInt_nonneg d) (minInt_lt_maxInt d).le hmin hmax]

/-! ## Zeros and infinities -/

theorem intOf_injective {r : Rep} {p p' : Nat} (hp : p < 2 ^ r.width) (hp' : p' < 2 ^ r.width)
    (h : r.intOf p = r.intOf p') : p = p' := by
  rw [← patternOf_intOf r hp, ← patternOf_intOf r hp', h]

/-- The pattern in the middle of an integer representation's range, to which both zeros go (R102, R104). -/
def middle (d : Rep) : Nat :=
  if d.isSigned then 0 else 2 ^ (d.width - 1)

theorem middle_lt (d : Rep) : middle d < 2 ^ d.width := by
  have hpos := Nat.two_pow_pos (d.width - 1)
  rw [middle, d.two_pow_width]
  split_ifs <;> omega

theorem intOf_middle (d : Rep) : d.intOf (middle d) = exactMap d 0 := by
  rw [middle, exactMap]
  cases h : d.isSigned
  · simp [intOf_of_unsigned h]
  · simp [intOf_of_signed h]

theorem conv_of_hasValue_zero {s d : Rep} (hs : s.isFloat = true) (hd : d.isFloat = false) {p : Nat}
    (hp : p < 2 ^ s.width) (hzero : HasValue (floatFormat s) p 0) (k : Nat) : conv s d p k = middle d := by
  apply intOf_injective (conv_lt s d hp k) (middle_lt d)
  rw [intOf_conv_eq_truncate_exactMap hs hd (n := 0) hzero (by norm_num) (by norm_num) (by simp), ← intOf_middle,
    truncate_intCast]

theorem intOf_conv_of_inf {s d : Rep} (hs : s.isFloat = true) (hd : d.isFloat = false) {p : Nat} {neg : Bool}
    (hinf : (floatFormat s).num p = .inf neg) (k : Nat) :
    d.intOf (conv s d p k) = if neg then d.minInt else d.maxInt := by
  have hle := (minInt_lt_maxInt d).le
  rw [conv_floatToInt hs hd, hinf]
  cases neg
  · exact intOf_patternOf d hd hle le_rfl
  · exact intOf_patternOf d hd le_rfl hle

/-! ## Draws (R107) -/

/-- The formula makes no NaN: beyond 1 in magnitude the clamp answers, and up to 1 every step is finite. -/
theorem floatToInt_eq_none_iff {s d : Rep} (hd : d.isFloat = false) (p : Nat) :
    floatToInt d ((floatFormat s).num p) = none ↔ (floatFormat s).num p = .nan := by
  cases hnum : (floatFormat s).num p with
  | nan => simp [floatToInt]
  | inf neg => simp [floatToInt]
  | fin neg m e =>
    obtain ⟨hm, he⟩ := bounds_of_float_num hnum
    rw [floatToInt_fin]
    have hsome : ∃ i, clampTrunc d (affineMap d (.fin neg m e)) = some i := by
      rcases le_total 1 (finValue neg m e) with h1 | h1
      · exact ⟨_, clampTrunc_of_beyond_max hd (affineMap_beyond_max hd hm he h1)⟩
      rcases le_total (finValue neg m e) (-1) with h2 | h2
      · exact ⟨_, clampTrunc_of_beyond_min hd (affineMap_beyond_min hd hm he h2)⟩
      have hv : |finValue neg m e| ≤ 2 ^ 900 := (abs_le.2 ⟨h2, h1⟩).trans (one_le_pow₀ one_le_two)
      obtain ⟨_, _, _, _, _, y, -, hy⟩ := affineMap_steps hd ⟨neg, m, e, rfl, rfl⟩ hv
      exact ⟨_, clampTrunc_of_denotes hd hy⟩
    obtain ⟨i, hi⟩ := hsome
    simp [hi]

/-- The spec leaves the result open exactly for a NaN that changes its type. -/
theorem convFixed_eq_none_iff (s d : Rep) (v : Nat) :
    convFixed s d v = none ↔ s.isFloat = true ∧ s ≠ d ∧ (floatFormat s).num v = .nan := by
  by_cases hsd : s = d
  · simp [convFixed, convClass, hsd]
  cases hs : s.isFloat <;> cases hd : d.isFloat
  case false.false =>
    have h := (conv_int hs hd hsd v 0).2
    simpa [convDraws] using h
  case false.true =>
    have h := (conv_intToFloat hs hd v 0).2
    simpa [convDraws] using h
  case true.false =>
    have h : convFixed s d v = (floatToInt d ((floatFormat s).num v)).map d.patternOf := by
      simp [convFixed, convClass, hsd, hs, hd]
    simp [h, hsd, floatToInt_eq_none_iff hd]
  case true.true =>
    have h : convFixed s d v = if s = .f32 then f32ToF64 v else f64ToF32 v := by
      simp [convFixed, convClass, hsd, hs, hd]
    rcases (isFloat_iff s).1 hs with rfl | rfl
    · simpa [h, hsd, floatFormat] using f32ToF64_eq_none_iff v
    · simpa [h, hsd, floatFormat] using f64ToF32_eq_none_iff v

end Sys2Proof.Machine

namespace Sys2Proof
open Machine Safety

/-- Settles O32: the steps of the formula, and R102's corner by running the model on it. -/
theorem floatToIntegerRoundsEachOperation : Obligations.FloatToIntegerRoundsEachOperation := by
  constructor
  · intro s d x k v hs hd hp hv
    obtain ⟨t1, t3, t4, t5, t6, y, h, hresult⟩ := intOf_conv_steps hs hd hp hv k
    exact ⟨t1, t3, t4, t5, t6, y, _, h.plus.nearestEven, h.timesMax.nearestEven, h.minus.nearestEven,
      h.timesMin.nearestEven, h.sum.nearestEven, h.half.nearestEven, rfl, hresult⟩
  · intro k
    have hcorner : convFixed .f64 .i8 0x3FDFFFFFFFFFFFFF = some 64 := by decide +kernel
    rw [conv, hcorner, Option.getD_some]

/-- Settles O31: on the grid no step rounds. -/
theorem floatToIntegerTruncatesTheExactMap : Obligations.FloatToIntegerTruncatesTheExactMap := by
  rintro s d x k q m n hs hd hp hl hu hn rfl
  exact intOf_conv_eq_truncate_exactMap hs hd hp hl hu hn k

/-- Settles O29: ±1 saturate, both zeros are the value 0 of the exact map, and an infinity goes to its end. -/
theorem floatToIntegerAtTheBoundaries : Obligations.FloatToIntegerAtTheBoundaries := by
  intro d k hd
  have saturates {s : Rep} (hs : s.isFloat = true) (x : Bus) {q : ℚ} (hq : HasValue (floatFormat s) (unbus s x) q) :=
    floatToIntegerSaturates s d x k q hs hd hq
  have zero {s : Rep} (hs : s.isFloat = true) {p : Nat} (hp : p < 2 ^ s.width) (neg : Bool) (e : Int)
      (hnum : (floatFormat s).num p = .fin neg 0 e) :=
    conv_of_hasValue_zero (d := d) hs hd hp ⟨neg, 0, e, hnum, by simp [finValue_eq]⟩ k
  refine ⟨?_, ?_, ?_, ?_, ?_, ?_, ?_, ?_, ?_, ?_, ?_, ?_⟩
  · exact (saturates (s := .f32) rfl 0xBF800000 (q := -1)
      ⟨true, 2 ^ 23, -23, by decide, by norm_num [finValue, signed]⟩).2 le_rfl
  · exact (saturates (s := .f64) rfl 0xBFF0000000000000 (q := -1)
      ⟨true, 2 ^ 52, -52, by decide, by norm_num [finValue, signed]⟩).2 le_rfl
  · exact zero (s := .f32) rfl (by decide) false (-149) (by decide)
  · exact zero (s := .f32) rfl (by decide) true (-149) (by decide)
  · exact zero (s := .f64) rfl (by decide) false (-1074) (by decide)
  · exact zero (s := .f64) rfl (by decide) true (-1074) (by decide)
  · exact (saturates (s := .f32) rfl 0x3F800000 (q := 1)
      ⟨false, 2 ^ 23, -23, by decide, by norm_num [finValue, signed]⟩).1 le_rfl
  · exact (saturates (s := .f64) rfl 0x3FF0000000000000 (q := 1)
      ⟨false, 2 ^ 52, -52, by decide, by norm_num [finValue, signed]⟩).1 le_rfl
  · exact intOf_conv_of_inf (s := .f32) rfl hd (neg := false) (by decide) k
  · exact intOf_conv_of_inf (s := .f64) rfl hd (neg := false) (by decide) k
  · exact intOf_conv_of_inf (s := .f32) rfl hd (neg := true) (by decide) k
  · exact intOf_conv_of_inf (s := .f64) rfl hd (neg := true) (by decide) k

/-- Settles O36: a draw stands for a result that is left open. -/
theorem onlyNanInputsMakeADraw : Obligations.OnlyNanInputsMakeADraw := by
  intro s d x
  rw [← convFixed_eq_none_iff, convDraws]
  exact ⟨fun h => by simp [h], fun h => by simp [h]⟩

end Sys2Proof
end

section
/-!
PROOFS. From an integer to a float (40_conversion.md R103, R104), and through a float back (R110): the quotient is on
the grid of binary64, and for up to 24 bits on that of binary32.
-/

namespace Sys2Proof.Machine
open Sys2Proof.Safety

/-! ## The inverse map (R103) -/

/-- The numerator of R103's quotient, whose denominator is 2^W. -/
def inverseNumerator (s : Rep) (i : Int) : Int :=
  2 * i - (s.maxInt + 1) - s.minInt

/-- R103's map: from the range of the representation into [−1, 1). -/
def inverseMap (s : Rep) (i : Int) : ℚ :=
  inverseNumerator s i * 2 ^ (-(s.width : Int))

theorem intToFloat_eq_round (s d : Rep) (v : Nat) :
    intToFloat s d v = (floatFormat d).round (decide (inverseNumerator s (s.intOf v) < 0))
      (inverseNumerator s (s.intOf v)).natAbs (-(s.width : Int)) :=
  rfl

theorem maxInt_add_one_sub_minInt {s : Rep} (hs : s.isFloat = false) : s.maxInt + 1 - s.minInt = 2 ^ s.width := by
  revert hs
  cases s <;> decide

theorem inverseMap_eq_div {s : Rep} (hs : s.isFloat = false) (i : Int) :
    inverseMap s i = (2 * (i : ℚ) - (s.maxInt + 1) - s.minInt) / ((s.maxInt + 1) - s.minInt) := by
  have hden : (s.maxInt : ℚ) + 1 - s.minInt = 2 ^ s.width := by exact_mod_cast maxInt_add_one_sub_minInt hs
  rw [hden, inverseMap, inverseNumerator, zpow_neg, zpow_natCast, div_eq_mul_inv]
  push_cast
  rfl

theorem width_le_32 {s : Rep} (hs : s.isFloat = false) : s.width ≤ 32 := by
  revert hs
  cases s <;> decide

/-- In range the numerator runs from −2^W up to, and below, 2^W. -/
theorem inverseNumerator_range {s : Rep} (hs : s.isFloat = false) {i : Int} (hl : s.minInt ≤ i) (hu : i ≤ s.maxInt) :
    -2 ^ s.width ≤ inverseNumerator s i ∧ inverseNumerator s i < 2 ^ s.width := by
  have := maxInt_add_one_sub_minInt hs
  unfold inverseNumerator
  omega

theorem inverseMap_range {s : Rep} (hs : s.isFloat = false) {i : Int} (hl : s.minInt ≤ i) (hu : i ≤ s.maxInt) :
    -1 ≤ inverseMap s i ∧ inverseMap s i < 1 := by
  obtain ⟨hnl, hnu⟩ := inverseNumerator_range hs hl hu
  have hpos : (0 : ℚ) < 2 ^ s.width := by positivity
  rw [inverseMap, zpow_neg, zpow_natCast, ← div_eq_mul_inv, le_div_iff₀ hpos, div_lt_iff₀ hpos, neg_one_mul, one_mul]
  exact ⟨by exact_mod_cast hnl, by exact_mod_cast hnu⟩

/-- The exact map of R100 undoes the inverse map. -/
theorem exactMap_inverseMap {s : Rep} (hs : s.isFloat = false) (i : Int) : exactMap s (inverseMap s i) = i := by
  have hden : (s.maxInt : ℚ) + 1 - s.minInt = 2 ^ s.width := by exact_mod_cast maxInt_add_one_sub_minInt hs
  have hpos : (2 : ℚ) ^ s.width ≠ 0 := by positivity
  rw [exactMap_eq, inverseMap_eq_div hs, hden]
  field_simp
  rw [← hden]
  ring

/-! ## The quotient as a float -/

theorem finValue_inverseNumerator (s : Rep) (i : Int) :
    finValue (decide (inverseNumerator s i < 0)) (inverseNumerator s i).natAbs (-(s.width : Int)) = inverseMap s i :=
  finValue_natAbs _ _

/-- A quotient that is a number of the format is the result's value. -/
theorem hasValue_intToFloat {s d : Rep} (hs : s.isFloat = false) (hd : d.isFloat = true) {v : Nat}
    (hv : v < 2 ^ s.width) (hgrid : (floatFormat d).Grid (inverseMap s (s.intOf v))) :
    HasValue (floatFormat d) (intToFloat s d v) (inverseMap s (s.intOf v)) := by
  obtain ⟨hl, hu⟩ := intOf_range s hs hv
  obtain ⟨hql, hqu⟩ := inverseMap_range hs hl hu
  have hone : 1 ≤ (floatFormat d).maxFinite := by
    rcases (isFloat_iff d).1 hd with rfl | rfl
    · change 1 ≤ binary32.maxFinite
      rw [binary32_maxFinite]
      norm_num
    · exact (one_le_pow₀ one_le_two).trans two_pow_1000_le_maxFinite
  have hformat : 2 ≤ (floatFormat d).prec ∧ 2 ≤ (floatFormat d).expBits := by
    revert hd
    cases d <;> decide
  rw [← finValue_inverseNumerator] at hgrid hql hqu ⊢
  obtain ⟨m, e, hnum, hvalue⟩ := FloatFormat.num_round_of_grid hformat.1 hformat.2 _ hgrid
    ((abs_le.2 ⟨hql, hqu.le⟩).trans hone)
  rw [intToFloat_eq_round]
  exact ⟨_, _, _, hnum, hvalue⟩

/-- Every quotient is exact in binary64 (R103). -/
theorem hasValue_intToFloat_f64 {s : Rep} (hs : s.isFloat = false) {v : Nat} (hv : v < 2 ^ s.width) :
    HasValue binary64 (intToFloat s .f64 v) (inverseMap s (s.intOf v)) := by
  have hw := width_le_32 hs
  obtain ⟨hl, hu⟩ := intOf_range s hs hv
  obtain ⟨hnl, hnu⟩ := inverseNumerator_range hs hl hu
  refine hasValue_intToFloat (d := .f64) hs rfl hv (grid_binary64 rfl (abs_le.2 ?_) (by omega))
  have : (2 : Int) ^ s.width ≤ 2 ^ 53 := pow_le_pow_right₀ (by decide) (by omega)
  omega

/-- For up to 24 bits every quotient is exact in binary32. -/
theorem hasValue_intToFloat_f32 {s : Rep} (hs : s.isFloat = false) (hw : s.width ≤ 24) {v : Nat}
    (hv : v < 2 ^ s.width) : HasValue binary32 (intToFloat s .f32 v) (inverseMap s (s.intOf v)) := by
  obtain ⟨hl, hu⟩ := intOf_range s hs hv
  obtain ⟨hnl, hnu⟩ := inverseNumerator_range hs hl hu
  have hgrid : binary32.Grid (inverseMap s (s.intOf v)) := by
    refine FloatFormat.grid_of_abs_le rfl (abs_le.2 ?_) (by change -149 ≤ _; omega)
    have : (2 : Int) ^ s.width ≤ 2 * 2 ^ (24 - 1) := pow_le_pow_right₀ (a := (2 : Int)) (by decide) hw
    change -(2 * 2 ^ (24 - 1)) ≤ _ ∧ _ ≤ 2 * 2 ^ (24 - 1)
    omega
  exact hasValue_intToFloat (d := .f32) hs rfl hv hgrid

/-- A pattern of the quotient in either float converts back to the integer: the quotient is on the grid of R101. -/
theorem conv_of_hasValue_inverseMap {s r : Rep} (hs : s.isFloat = true) (hr : r.isFloat = false) {p v : Nat}
    (hv : v < 2 ^ r.width) (hp : p < 2 ^ s.width) (hq : HasValue (floatFormat s) p (inverseMap r (r.intOf v)))
    (k : Nat) : conv s r p k = v := by
  have hw := width_le_32 hr
  obtain ⟨hl, hu⟩ := intOf_range r hr hv
  obtain ⟨hql, hqu⟩ := inverseMap_range hr hl hu
  have hgrid : inverseMap r (r.intOf v) * 2 ^ 52 =
      ((inverseNumerator r (r.intOf v) * 2 ^ (52 - r.width) : Int) : ℚ) := by
    have hsplit : (2 : ℚ) ^ 52 = 2 ^ r.width * 2 ^ (52 - r.width) := by
      rw [← pow_add, Nat.add_sub_cancel' (by omega)]
    rw [inverseMap, zpow_neg, zpow_natCast, hsplit, mul_assoc, inv_mul_cancel_left₀ (by positivity)]
    push_cast
    rfl
  apply intOf_injective (conv_lt s r hp k) hv
  rw [intOf_conv_eq_truncate_exactMap hs hr hq hql hqu hgrid, exactMap_inverseMap hr, truncate_intCast]

/-! ## The ends and the middle (R104) -/

/-- The quotient of the least integer is −1, written as any format rounds it. -/
theorem intToFloat_minInt {s : Rep} (hs : s.isFloat = false) (d : Rep) :
    intToFloat s d (s.patternOf s.minInt) = (floatFormat d).round true 1 0 := by
  have hn : inverseNumerator s s.minInt = -2 ^ s.width := by
    have := maxInt_add_one_sub_minInt hs
    unfold inverseNumerator
    omega
  have hneg : decide (-(2 : Int) ^ s.width < 0) = true := by simp
  rw [intToFloat_eq_round, intOf_patternOf s hs le_rfl (minInt_lt_maxInt s).le, hn, hneg]
  apply FloatFormat.round_congr
  rw [Int.natAbs_neg, Int.natAbs_pow, zpow_neg, zpow_natCast]
  simp

theorem inverseNumerator_middle {s : Rep} (hs : s.isFloat = false) : inverseNumerator s (s.intOf (middle s)) = 0 := by
  revert hs
  cases s <;> decide

/-- The quotient of the middle is +0. -/
theorem intToFloat_middle {s : Rep} (hs : s.isFloat = false) (d : Rep) : intToFloat s d (middle s) = 0 := by
  rw [intToFloat_eq_round, inverseNumerator_middle hs]
  rfl

theorem inverseMap_maxInt {s : Rep} (hs : s.isFloat = false) : inverseMap s s.maxInt = 1 - 1 / 2 ^ (s.width - 1) := by
  have hden : (s.maxInt : ℚ) + 1 - s.minInt = 2 ^ s.width := by exact_mod_cast maxInt_add_one_sub_minInt hs
  have hwidth : (2 : ℚ) ^ s.width = 2 * 2 ^ (s.width - 1) := by exact_mod_cast s.two_pow_width
  have hnum : 2 * (s.maxInt : ℚ) - (s.maxInt + 1) - s.minInt = 2 ^ s.width - 2 := by linarith
  have hpos : (2 : ℚ) ^ (s.width - 1) ≠ 0 := by positivity
  rw [inverseMap_eq_div hs, hnum, hden, hwidth]
  field_simp

end Sys2Proof.Machine

namespace Sys2Proof
open Machine Safety

/-- Settles O27: the quotient is exact in f64, and equal magnitudes round alike to f32. -/
theorem integerToFloatIsTheInverseMapRoundedOnce : Obligations.IntegerToFloatIsTheInverseMapRoundedOnce := by
  intro s x k hs
  have hv := unbus_lt s x
  have hexact := hasValue_intToFloat_f64 hs hv
  obtain ⟨hl, hu⟩ := intOf_range s hs hv
  obtain ⟨hql, hqu⟩ := inverseMap_range hs hl hu
  rw [(conv_intToFloat hs rfl _ k).1, (conv_intToFloat hs rfl _ k).1, ← inverseMap_eq_div hs]
  refine ⟨hexact, ?_⟩
  obtain ⟨m, e, hnum, hvalue⟩ : ∃ m e,
      binary64.num (intToFloat s .f64 (unbus s x)) = .fin (decide (inverseNumerator s (s.intOf (unbus s x)) < 0)) m e ∧
        finValue (decide (inverseNumerator s (s.intOf (unbus s x)) < 0)) m e = inverseMap s (s.intOf (unbus s x)) := by
    obtain ⟨neg, m, e, hnum, hvalue⟩ := hexact
    have hneg := negOf_of_num_eq_fin hnum
    rw [intToFloat_eq_round] at hneg
    rw [(negOf_round binary64 _ _ _).symm.trans hneg]
    exact ⟨m, e, hnum, hvalue⟩
  have hle : |finValue (decide (inverseNumerator s (s.intOf (unbus s x)) < 0)) m e| ≤ binary32.maxFinite := by
    rw [hvalue, binary32_maxFinite]
    exact (abs_le.2 ⟨hql, hqu.le⟩).trans (by norm_num)
  rw [conv_f64_f32_of_abs_le hnum hle, intToFloat_eq_round]
  apply FloatFormat.round_congr
  rw [← abs_finValue, ← abs_finValue, hvalue, finValue_inverseNumerator]

/-- Settles O28: the quotients of the three integers; in f32 the greatest 32-bit ones round up to 1. -/
theorem integerToFloatAtTheBoundaries : Obligations.IntegerToFloatAtTheBoundaries := by
  intro s k hs
  have hconv {d : Rep} (hd : d.isFloat = true) (v : Nat) := (conv_intToFloat hs hd v k).1
  have hmax := patternOf_lt s s.maxInt
  have hq : inverseMap s (s.intOf (s.patternOf s.maxInt)) = 1 - 1 / 2 ^ (s.width - 1) := by
    rw [intOf_patternOf s hs (minInt_lt_maxInt s).le le_rfl, inverseMap_maxInt hs]
  rw [hconv rfl, hconv rfl, hconv rfl, hconv rfl, hconv rfl, hconv rfl, ← hq]
  refine ⟨?_, ?_, intToFloat_middle hs _, intToFloat_middle hs _, hasValue_intToFloat_f64 hs hmax,
    fun hw => hasValue_intToFloat_f32 hs hw hmax, fun hw => ?_⟩
  · rw [intToFloat_minInt hs]
    decide
  · rw [intToFloat_minInt hs]
    decide
  · obtain rfl | rfl : s = .u32 ∨ s = .i32 := by
      revert hs hw
      cases s <;> decide
    · decide
    · decide

/-- Settles O33: an exact quotient comes back; 2^30 + 1 has more bits than f32 keeps and comes back as 2^30. -/
theorem integersSurviveTheRoundTripThroughFloat : Obligations.IntegersSurviveTheRoundTripThroughFloat := by
  intro r hr
  have hconv {d : Rep} (hd : d.isFloat = true) (v k : Nat) := (conv_intToFloat hr hd v k).1
  refine ⟨fun x k k' => ?_, fun x k k' hw => ?_, fun hw => ⟨0x40000001, fun k k' => ?_⟩⟩
  · have hv := unbus_lt r x
    have hp := conv_lt r .f64 hv k
    rw [hconv rfl] at hp ⊢
    exact conv_of_hasValue_inverseMap rfl hr hv hp (hasValue_intToFloat_f64 hr hv) k'
  · have hv := unbus_lt r x
    have hp := conv_lt r .f32 hv k
    rw [hconv rfl] at hp ⊢
    exact conv_of_hasValue_inverseMap rfl hr hv hp (hasValue_intToFloat_f32 hr hw hv) k'
  · have hback : convFixed .f32 r (intToFloat r .f32 (unbus r 0x40000001)) = some 0x40000000 := by
      obtain rfl | rfl : r = .u32 ∨ r = .i32 := by
        revert hr hw
        cases r <;> decide
      · decide +kernel
      · decide +kernel
    have hsource : unbus r 0x40000001 = 0x40000001 := by
      rw [unbus, hw]
      rfl
    rw [hconv rfl, conv, hback, hsource, Option.getD_some]
    decide

end Sys2Proof
end

section
/-!
PROOFS. Raw windows (41_raw_serialization.md R120, R121, R127): the bytes of a window and the number they spell, where
big-endian is little-endian on the reversed window; then the completions of RAWRD and RAWWR (R122, R123).
-/

namespace Sys2Proof
open Machine

/-! ## A number and its bytes -/

theorem leNat_eq_sum (b : List Byte) :
    leNat b = ∑ i ∈ Finset.range b.length, (b.getD i 0).toNat * 2 ^ (8 * i) := by
  induction b with
  | nil => rfl
  | cons x b ih =>
    rw [leNat, ih, List.length_cons, Finset.sum_range_succ', Finset.mul_sum, Nat.add_comm]
    congr 1
    · refine Finset.sum_congr rfl fun i _ => ?_
      rw [List.getD_cons_succ, Nat.mul_succ, Nat.pow_add]
      ring
    · simp

theorem leNat_reverse_eq_sum (b : List Byte) :
    leNat b.reverse = ∑ i ∈ Finset.range b.length, (b.getD i 0).toNat * 2 ^ (8 * (b.length - 1 - i)) := by
  rw [leNat_eq_sum, List.length_reverse, ← Finset.sum_range_reflect]
  refine Finset.sum_congr rfl fun i hi => ?_
  have hi := Finset.mem_range.1 hi
  have hback : b.length - 1 - (b.length - 1 - i) = i := by omega
  rw [List.getD_reverse _ (by omega), hback]

theorem toNat_getD_leBytes {n i : Nat} (hi : i < n) (p : Nat) :
    ((leBytes n p).getD i 0).toNat = p / 2 ^ (8 * i) % 256 := by
  induction n generalizing p i with
  | zero => omega
  | succ n ih =>
    cases i with
    | zero => simp [leBytes]
    | succ i =>
      rw [leBytes, List.getD_cons_succ, ih (by omega), Nat.div_div_eq_div_mul, Nat.mul_succ, Nat.add_comm, Nat.pow_add]

/-! ## The two byte orders -/

/-- Big-endian encoding lists the little-endian window from its end. -/
theorem rawEncode_be (r : Rep) (p : Nat) : rawEncode r true p = (rawEncode r false p).reverse := rfl

/-- Big-endian decoding reads the window from its end. -/
theorem rawDecode_be (r : Rep) (b : List Byte) : rawDecode r true b = rawDecode r false b.reverse := rfl

/-- A window of the representation's width spells a pattern of that width, so decoding cuts nothing off. -/
theorem rawDecode_le {r : Rep} {b : List Byte} (h : b.length = r.rawWidth) : rawDecode r false b = leNat b := by
  have hlt := leNat_lt b
  rw [h, ← r.width_eq.1] at hlt
  exact Nat.mod_eq_of_lt hlt

/-- A window that was decoded encodes back to itself (R127). -/
theorem rawEncode_rawDecode {r : Rep} (be : Bool) {b : List Byte} (h : b.length = r.rawWidth) :
    rawEncode r be (rawDecode r be b) = b := by
  have hle {b : List Byte} (h : b.length = r.rawWidth) : rawEncode r false (rawDecode r false b) = b := by
    rw [rawDecode_le h]
    simp [rawEncode, ← h, leBytes_leNat]
  cases be with
  | false => exact hle h
  | true => rw [rawEncode_be, rawDecode_be, hle (by simpa using h), List.reverse_reverse]

/-- Settles O40: the digits of the number that a window spells, reversed for big-endian. -/
theorem rawDecodeIsTheWeightedSum : Obligations.RawDecodeIsTheWeightedSum := by
  intro r b h
  constructor
  · rw [rawDecode_le h, leNat_eq_sum, h]
  · rw [rawDecode_be, rawDecode_le (by simpa using h), leNat_reverse_eq_sum, h]

/-- Settles O41: a digit of the pattern per byte, reversed for big-endian. -/
theorem rawEncodeListsTheBytes : Obligations.RawEncodeListsTheBytes := by
  intro r p
  refine ⟨rawEncode_length r false p, rawEncode_length r true p, fun i hi => ?_⟩
  have hlittle {j : Nat} (hj : j < r.rawWidth) :
      ((rawEncode r false p).getD j 0).toNat = p / 2 ^ (8 * j) % 256 :=
    toNat_getD_leBytes hj p
  refine ⟨hlittle hi, ?_⟩
  rw [rawEncode_be, List.getD_reverse _ (by simpa using hi), rawEncode_length, hlittle (by omega)]

/-- Settles O42: a value and its window determine each other in both byte orders. -/
theorem rawWindowsRoundTrip : Obligations.RawWindowsRoundTrip :=
  fun r be => ⟨fun x => rawDecode_rawEncode r be (unbus_lt r x), fun _ => rawEncode_rawDecode be, fun x =>
    rawEncode_be r (unbus r x)⟩

/-! ## The commands -/

/-- RAWOUT holds the window, and 0 past its end (R79). -/
theorem getElem_rawBus (b : List Byte) (i : Fin 8) : (rawBus b)[i] = b.getD i 0 := by
  fin_cases i <;> rfl

/-- Settles O39: RAWWR is legal on both ports, and unfaulted it performs its rule. -/
theorem rawwrAnswersTheEncodedWindow : Obligations.RawwrAnswersTheEncodedWindow := by
  intro r be s hf
  refine ⟨rawBus (rawEncode r be (unbus r s.txn.arg0)), ?_, getElem_rawBus _⟩
  rw [exec_rawwr, rawwr, gated_of_legal _ hf rfl]
  rfl

/-- Settles O38: RAWRD is legal on both ports, and unfaulted it performs its rule. -/
theorem rawrdAnswersTheDecodedWindow : Obligations.RawrdAnswersTheDecodedWindow := by
  intro r be s hf
  rw [exec_rawrd, rawrd, gated_of_legal _ hf rfl]
  rfl

end Sys2Proof
end

section
/-!
PROOFS. The five cursor commands on P0 (42_buffer_access.md R132 to R147): the first check that applies is the fault,
and behind the checks each command is one equation per case of its rule.
-/

namespace Sys2Proof.Machine
open Sys2Proof.Safety

/-! ## The checks (R185) -/

theorem gated_of_callbackReady {s : State} (h : CallbackReady s)
    (rule : State → Host.Outcome State Fault Refusal) : gated callbackPort rule s = rule s :=
  gated_of_legal rule h.no_fault ((callbackPort_iff _).mpr h.on_p0)

theorem execAcquire_of_callbackReady {s : State} (h : CallbackReady s) :
    exec .acquire s = checked (acquireChecks s) acquireRule s :=
  gated_of_callbackReady h _

/-- Every GET and SET comes to the checks they share. -/
theorem execSample_of_callbackReady {r : Rep} {i : Instr} {s : State}
    (hi : i = instrOf (.get r) ∨ i = instrOf (.set r)) (h : CallbackReady s) :
    ∃ rule, exec i s = checked (sampleChecks s) rule s := by
  rcases hi with rfl | rfl
  · exact ⟨getRule r, (exec_get r s).trans (gated_of_callbackReady h _)⟩
  · exact ⟨setRule r, (exec_set r s).trans (gated_of_callbackReady h _)⟩

theorem execCommit_of_callbackReady {s : State} (h : CallbackReady s) :
    exec .commit s = checked (commitChecks s) commitRule s :=
  gated_of_callbackReady h _

theorem execArea_of_callbackReady {s : State} (h : CallbackReady s) :
    exec .area s = checked (areaChecks s) areaRule s :=
  gated_of_callbackReady h _

/-! ## ACQUIRE (R132 to R138) -/

theorem acquireRule_broken {s : State} (broken : s.broken = true) :
    acquireRule s = .next (answer .fatal s) :=
  if_pos broken

theorem acquireRule_recoverable {s : State} (unbroken : s.broken = false)
    (recoverable : s.txn.grant.status = .recoverable) :
    acquireRule s = .next (answer .recoverable s) := by
  simp [acquireRule, unbroken, recoverable]

theorem acquireRule_fatal {s : State} (unbroken : s.broken = false) (fatal : s.txn.grant.status = .fatal) :
    acquireRule s = .next (answer .fatal { s with broken := true }) := by
  simp [acquireRule, unbroken, fatal]

/-- An area that the answer lists for a channel, with a base in range, is loaded as it is. -/
theorem getElem?_grantedAreas {s : State} {g : Grant} {c : Nat} {a : Area} (hc : c < s.channels.toNat)
    (listed : g.areas[c]? = some a) (hbase : a.base < 2 ^ s.params.addrW) : (grantedAreas s g)[c]? = some a := by
  have harea : grantedArea s g c = a := by
    simp [grantedArea, listed, Nat.mod_eq_of_lt hbase]
  simp [grantedAreas, hc, harea]

/-! ## A write of a window (R57, R58) -/

theorem getElem_windowAddresses (s : State) (a : Area) (f : Nat) {i : Nat}
    (hi : i < (s.windowAddresses a f).length) : (s.windowAddresses a f)[i] = s.windowAddress a f + (i : Nat) := by
  simp [State.windowAddresses]

/-- After a write of distinct addresses, each is known to hold its byte. -/
theorem read_writeWindow_getElem (s : State) {xs : List Int} {bs : List Byte} (hlen : xs.length = bs.length)
    (hnodup : (xs.map Int.toNat).Nodup) {i : Nat} (hi : i < xs.length) :
    Memory.read (s.writeWindow xs bs).mem xs[i].toNat = some (bs.getD i 0) := by
  have hb : i < bs.length := hlen ▸ hi
  have hkeys : (((xs.map Int.toNat).zip bs).map Prod.fst).Nodup := by
    rwa [List.map_fst_zip (by simp [hlen])]
  have hcell : (xs[i].toNat, bs[i]) ∈ (xs.map Int.toNat).zip bs :=
    List.mem_iff_getElem.mpr ⟨i, by simp [hi, hb], by simp⟩
  rw [List.getD_eq_getElem _ _ hb]
  exact Memory.read_writeAll_mem _ _ hkeys hcell

/-- A write leaves what is known of every other address. -/
theorem read_writeWindow_other (s : State) {xs : List Int} (bs : List Byte) {x : Nat} (h : ∀ y ∈ xs, y.toNat ≠ x) :
    Memory.read (s.writeWindow xs bs).mem x = Memory.read s.mem x := by
  refine Memory.read_writeAll_other _ _ _ fun c hc => ?_
  obtain ⟨y, hy, hyc⟩ := List.mem_map.mp (List.of_mem_zip hc).1
  exact hyc ▸ h y hy

/-- SET of an accessible window writes the converted value's encoding there (R142). -/
theorem setRule_of_accessible {s : State} {a : Area} {w : Nat} (r : Rep) (ha : s.areas[s.txn.arg0.toNat]? = some a)
    (hx : ∀ x ∈ s.windowAddresses a s.txn.arg1.toNat, s.accessible x = true)
    (hw : w = conv r s.cfgFormat.rep (unbus r s.txn.arg2) s.draws) :
    setRule r s = .next (answer .ok
      { s.writeWindow (s.windowAddresses a s.txn.arg1.toNat) (rawEncode s.cfgFormat.rep s.cfgFormat.be w) with
        draws := s.draws + convDraws r s.cfgFormat.rep (unbus r s.txn.arg2) }) := by
  rw [setRule, withWindow_accessible _ ha hx, hw]

/-! ## COMMIT and AREA (R144, R147) -/

theorem commitRule_idle {s : State} (idle : s.curState = .idle) : commitRule s = .next (answer .ok s) := by
  simp [commitRule, idle]

theorem commitRule_acquired {s : State} (held : s.curState = .acquired) :
    commitRule s = .next (answer s.txn.commit.status (release s.txn.commit s)) := by
  simp [commitRule, held]

theorem areaRule_loaded {s : State} {a : Area} (ha : s.areas[s.txn.arg0.toNat]? = some a) :
    areaRule s = .next (respond .ok (baseBus a.base) a.stride rawZero 0 s) := by
  simp [areaRule, ha]

/-- A base that fits the result bus is answered as it is. -/
theorem toNat_baseBus {base : Nat} (h : base < 2 ^ 64) : (baseBus base).toNat = base := by
  rw [baseBus, if_pos h, BitVec.toNat_ofNat, Nat.mod_eq_of_lt h]

end Sys2Proof.Machine

namespace Sys2Proof
open Machine Safety

/-- Settles O43: what the transport grants is taken, and the loaded areas are the answer's where it lists them. -/
theorem acquireTakesTheGrantedSection : Obligations.AcquireTakesTheGrantedSection := by
  intro s a ready unbroken ok ha
  have hexec : exec .acquire s = .next (result (BitVec.ofNat 64 a) (acquired s.txn.grant a s)) := by
    rw [execAcquire_of_ready ready, acquireRule_ok unbroken ok, ha]
    rfl
  refine ⟨fun hzero => ?_, fun hpos => ?_, length_grantedAreas _ _, fun _ _ => getElem?_grantedAreas⟩
  · subst hzero
    exact hexec
  · obtain ⟨hzero, -⟩ | ⟨-, he⟩ := acquired_cases s.txn.grant a s
    · omega
    · rw [hexec, he]
      rfl

/-- Settles O45: a broken stream does not ask the transport, and each error of the transport is one case of the rule. -/
theorem acquireReportsABrokenStreamAndAFailedGrant : Obligations.AcquireReportsABrokenStreamAndAFailedGrant := by
  intro s ready
  rw [execAcquire_of_ready ready]
  exact ⟨acquireRule_broken, acquireRule_recoverable, acquireRule_fatal⟩

/-- Settles O46: each clause makes one of ACQUIRE's three checks the first that applies. -/
theorem acquireFaultsInOrder : Obligations.AcquireFaultsInOrder := by
  intro s ready
  rw [execAcquire_of_callbackReady ready]
  refine ⟨fun inactive => ?noInvocation, fun active hwindow => ?frameCount, fun active hmin hmax held => ?double⟩
  case noInvocation => simp [acquireChecks, inactive, raiseFault_eq_faulted]
  case frameCount => simp [acquireChecks, active, hwindow, raiseFault_eq_faulted]
  case double => simp [acquireChecks, active, hmin, hmax, held, raiseFault_eq_faulted]

/-- Settles O47: behind the checks GET is its rule, on a window that may be accessed. -/
theorem getAnswersTheStoredSample : Obligations.GetAnswersTheStoredSample := by
  intro r s a w ready ha accessible hw
  rw [execGet_of_ready r ready, getRule_of_accessible r ha accessible hw]
  rfl

/-- Settles O48: an accessible window's addresses are distinct and not negative, so each takes its byte, and an address
outside it is none of those written. -/
theorem setWritesTheConvertedSample : Obligations.SetWritesTheConvertedSample := by
  intro r s a w ready ha accessible hw
  refine ⟨_, (execSet_of_ready r ready).trans (setRule_of_accessible r ha accessible hw), fun i hi => ?_,
    fun x hx => ?_⟩
  · have hi' : i < (s.windowAddresses a s.txn.arg1.toNat).length := by simpa using hi
    rw [← getElem_windowAddresses s a _ hi']
    exact read_writeWindow_getElem s (by simp) (nodup_windowAddresses accessible) hi'
  · refine read_writeWindow_other s _ fun y hy hyx => hx ?_
    rwa [← hyx, Int.toNat_of_nonneg (State.nonneg_of_accessible (accessible y hy))]

/-- Settles O50: each clause makes one of the four shared checks the first that applies. -/
theorem sampleAccessesFaultInOrder : Obligations.SampleAccessesFaultInOrder := by
  intro r i s hi ready
  obtain ⟨rule, hexec⟩ := execSample_of_callbackReady hi ready
  rw [hexec]
  refine ⟨fun inactive => ?noInvocation, fun active idle => ?notAcquired, fun active held hchannel => ?channel,
    fun active held hchannel hframe => ?frame⟩
  case noInvocation => simp [sampleChecks, inactive, raiseFault_eq_faulted]
  case notAcquired => simp [sampleChecks, active, idle, raiseFault_eq_faulted]
  case channel => simp [sampleChecks, active, held, hchannel, raiseFault_eq_faulted]
  case frame => simp [sampleChecks, active, held, hchannel, hframe, raiseFault_eq_faulted]

/-- Settles O54: in an invocation COMMIT is its rule, which releases a held section and leaves Idle alone. -/
theorem commitReleasesTheSection : Obligations.CommitReleasesTheSection := by
  intro s ready
  rw [execCommit_of_callbackReady ready]
  have hrule (active : s.invActive = true) : checked (commitChecks s) commitRule s = commitRule s := by
    simp [commitChecks, active]
  refine ⟨fun active held => ?released, fun active idle => ?noop, fun inactive => ?noInvocation⟩
  case released =>
    rw [hrule active, commitRule_acquired held]
    rfl
  case noop =>
    rw [hrule active, commitRule_idle idle]
    rfl
  case noInvocation => simp [commitChecks, inactive, raiseFault_eq_faulted]

/-- Settles O55: AREA answers the channel's area behind its four checks, and otherwise the first that applies faults. -/
theorem areaAnswersTheLoadedArea : Obligations.AreaAnswersTheLoadedArea := by
  intro s ready
  rw [execArea_of_callbackReady ready]
  refine ⟨fun a active held (hgranted : s.granted ≠ 0#32) hchannel ha => ⟨baseBus a.base, ?loaded, toNat_baseBus⟩,
    fun inactive => ?noInvocation, fun active idle => ?notAcquired, fun active held hgranted => ?noArea,
    fun active held (hgranted : s.granted ≠ 0#32) hchannel => ?channel⟩
  case loaded =>
    refine Eq.trans ?_ (areaRule_loaded ha)
    simp [areaChecks, active, held, hgranted, hchannel]
  case noInvocation => simp [areaChecks, inactive, raiseFault_eq_faulted]
  case notAcquired => simp [areaChecks, active, idle, raiseFault_eq_faulted]
  case noArea => simp [areaChecks, active, held, hgranted, raiseFault_eq_faulted]
  case channel => simp [areaChecks, active, held, hgranted, hchannel, raiseFault_eq_faulted]

end Sys2Proof
end

section
/-!
PROOFS. The lifecycle commands on P1 (43_lifecycle_and_status.md R160 to R167): the first check that applies is the
fault, and behind the checks each command has one equation for what it writes.
-/

namespace Sys2Proof.Machine
open Sys2Proof.Safety

/-! ## The checks (R185) -/

theorem gated_of_lifecycleReady {s : State} (h : LifecycleReady s)
    (rule : State → Host.Outcome State Fault Refusal) : gated lifecyclePort rule s = rule s :=
  gated_of_legal rule h.no_fault ((lifecyclePort_iff _).mpr h.on_p1)

theorem execConfigure_of_lifecycleReady {s : State} (h : LifecycleReady s) :
    exec .configure s = checked (configureChecks s) configureRule s :=
  gated_of_lifecycleReady h _

theorem execInvStart_of_lifecycleReady {s : State} (h : LifecycleReady s) :
    exec .invStart s = checked (invStartChecks s) invStartRule s :=
  gated_of_lifecycleReady h _

theorem execInvEnd_of_lifecycleReady {s : State} (h : LifecycleReady s) :
    exec .invEnd s = checked (invEndChecks s) invEndRule s :=
  gated_of_lifecycleReady h _

/-! ## CONFIGURE (R160) -/

theorem formatOfCode_eq_some {x : Bus} {f : Format} (h : x.toNat = f.code.toNat) : formatOfCode x = some f :=
  (formatCodesAreRepresentationAndByteOrder.1 x f).mpr h

theorem formatOfCode_eq_none {x : Bus} (h : ∀ f : Format, x.toNat ≠ f.code.toNat) : formatOfCode x = none :=
  Option.eq_none_iff_forall_ne_some.mpr fun f hf =>
    h f ((formatCodesAreRepresentationAndByteOrder.1 x f).mp hf)

theorem configureRule_of_format {s : State} {f : Format} (format : formatOfCode s.txn.arg0 = some f) :
    configureRule s =
      .next (answer .ok { s with cfgFormat := f, channels := s.txn.arg1, cfgLocked := true }) := by
  simp [configureRule, format]

/-! ## INV_END (R165 to R167) -/

/-- COMMITTED_TOTAL after a release, as a number: the saturated sum fits its 64 bits. -/
theorem toNat_release_committedTotal (st : Answer) (s : State) :
    (release st s).committedTotal.toNat =
      if st = .ok then min (s.committedTotal.toNat + s.granted.toNat) (2 ^ 64 - 1) else s.committedTotal.toNat := by
  rw [release_committedTotal]
  split
  · rw [addCommitted, BitVec.toNat_ofNat]
    exact Nat.mod_eq_of_lt (by omega)
  · rfl

/-- The implicit commit releases the section; an answer other than OK leaves its status code and one more discard. -/
theorem implicitCommit_acquired {s : State} (held : s.curState = .acquired) :
    implicitCommit s =
      { release s.txn.commit s with
        discardLast := (match s.txn.commit with
          | .ok => s.discardLast
          | .recoverable => 1
          | .fatal => 2)
        discardCount := if s.txn.commit = .ok then s.discardCount else bumpDiscards s.discardCount } := by
  rcases implicitCommit_cases s with ⟨idle, -⟩ | ⟨-, ok, he⟩ | ⟨-, notOk, he⟩
  · exact absurd (held.symm.trans idle) nofun
  · rw [he, ok]
    rfl
  · rw [he, if_neg notOk]
    cases hc : s.txn.commit with
    | ok => exact absurd hc notOk
    | recoverable => rfl
    | fatal => rfl

theorem invEndRule_idle {s : State} (idle : s.curState = .idle) :
    invEndRule s =
      .next (answer .ok { s with shortfall := shortOf s.committedTotal s.fcMin, invActive := false }) := by
  simp [invEndRule, implicitCommit, idle]

end Sys2Proof.Machine

namespace Sys2Proof
open Machine Safety

/-- Settles O56: the codes of R76 are those `formatOfCode` looks for, so each clause decides CONFIGURE's three checks. -/
theorem configureFixesFormatAndChannels : Obligations.ConfigureFixesFormatAndChannels := by
  intro s ready
  rw [execConfigure_of_lifecycleReady ready]
  refine ⟨fun f unlocked hcode one_le le_max => ?configured, fun locked => ?configLocked,
    fun unlocked hcode => ?illegalFormat, fun f unlocked hcode hcount => ?badChannelCount⟩
  case configured =>
    refine Eq.trans ?_ (configureRule_of_format (formatOfCode_eq_some hcode))
    simp [configureChecks, unlocked, formatOfCode_eq_some hcode, Nat.ne_zero_of_lt one_le, le_max]
  case configLocked => simp [configureChecks, locked, raiseFault_eq_faulted]
  case illegalFormat => simp [configureChecks, unlocked, formatOfCode_eq_none hcode, raiseFault_eq_faulted]
  case badChannelCount =>
    have hformat := formatOfCode_eq_some hcode
    rcases hcount with noChannel | tooMany
    · simp [configureChecks, unlocked, hformat, Nat.lt_one_iff.mp noChannel, raiseFault_eq_faulted]
    · simp [configureChecks, unlocked, hformat, tooMany, raiseFault_eq_faulted]

/-- Settles O57: behind its four checks INV_START is its rule, which keeps the operands' low 32 bits as the window. -/
theorem invStartOpensAnInvocation : Obligations.InvStartOpensAnInvocation := by
  intro s ready
  rw [execInvStart_of_lifecycleReady ready]
  refine ⟨fun locked inactive unbroken min_le max_lt => ?started, fun unlocked => ?notConfigured,
    fun locked active => ?invocationActive, fun locked inactive broken => ?streamBroken,
    fun locked inactive unbroken hwindow => ?badWindow⟩
  case started =>
    have hrule : checked (invStartChecks s) invStartRule s = invStartRule s := by
      simp [invStartChecks, locked, inactive, unbroken, min_le.not_gt, max_lt.not_ge, -Nat.reducePow]
    rw [hrule, BitVec.ofNat_toNat, BitVec.ofNat_toNat]
    rfl
  case notConfigured => simp [invStartChecks, unlocked, raiseFault_eq_faulted]
  case invocationActive => simp [invStartChecks, locked, active, raiseFault_eq_faulted]
  case streamBroken => simp [invStartChecks, locked, inactive, broken, raiseFault_eq_faulted]
  case badWindow =>
    simp [invStartChecks, locked, inactive, unbroken, hwindow, raiseFault_eq_faulted, -Nat.reducePow]

/-- Settles O58: in an invocation INV_END is its rule, and the shortfall is taken of the total that the implicit commit
leaves. -/
theorem invEndCommitsImplicitly : Obligations.InvEndCommitsImplicitly := by
  intro s ready
  rw [execInvEnd_of_lifecycleReady ready]
  have hrule (active : s.invActive = true) : checked (invEndChecks s) invEndRule s = invEndRule s := by
    simp [invEndChecks, active]
  refine ⟨fun total active held htotal => ?committed, fun active idle => ?idle, fun inactive => ?noInvocation⟩
  case committed =>
    have htotal : total = (release s.txn.commit s).committedTotal.toNat :=
      htotal.trans (toNat_release_committedTotal _ s).symm
    rw [hrule active, invEndRule, implicitCommit_acquired held, htotal, BitVec.ofNat_toNat, BitVec.setWidth_eq]
    rfl
  case idle =>
    rw [hrule active, invEndRule_idle idle]
    rfl
  case noInvocation => simp [invEndChecks, inactive, raiseFault_eq_faulted]

end Sys2Proof
end

section
/-!
PROOFS. Faults and refusals (60_exceptions.md R181 to R191): a block that is faulted answers each transaction without a
change, a word that is no command faults in the order of R184, and two transactions at once are performed one by one.
-/

namespace Sys2Proof.Machine
open Sys2Proof.Safety

/-! ## The gate of a command (R183, R191) -/

theorem refuseFaulted_eq (s : State) : refuseFaulted s = { s with reply := statusReply s .faulted } := rfl

theorem gated_of_fault {s : State} (hf : s.fault = true) (legal : Port → Bool)
    (rule : State → Host.Outcome State Fault Refusal) :
    gated legal rule s = .next { s with reply := statusReply s .faulted } := by
  rw [gated, if_pos hf, refuseFaulted_eq]

theorem gated_of_wrongPort {s : State} {legal : Port → Bool} (hf : s.fault = false) (hp : legal s.port = false)
    (rule : State → Host.Outcome State Fault Refusal) : gated legal rule s = .next (faulted s .wrongPort) := by
  simp [gated, hf, hp, raiseFault_eq_faulted]

/-- A cursor command on P1 is on the wrong port (R191). -/
theorem gated_callbackPort_of_p1 {s : State} (hf : s.fault = false) (hp : s.port = .p1)
    (rule : State → Host.Outcome State Fault Refusal) : gated callbackPort rule s = .next (faulted s .wrongPort) :=
  gated_of_wrongPort hf (by rw [hp]; rfl) rule

/-- A lifecycle command on P0 is on the wrong port (R191). -/
theorem gated_lifecyclePort_of_p0 {s : State} (hf : s.fault = false) (hp : s.port = .p0)
    (rule : State → Host.Outcome State Fault Refusal) : gated lifecyclePort rule s = .next (faulted s .wrongPort) :=
  gated_of_wrongPort hf (by rw [hp]; rfl) rule

/-- Every command but RDREG stands behind the gate. -/
theorem exec_eq_gated {i : Instr} (hi : i ≠ .rdreg) : ∃ legal rule, ∀ s, exec i s = gated legal rule s := by
  simp only [exec_eq_command]
  cases hc : i.command with
  | rdreg => exact absurd ((instrOf_command i).symm.trans (congrArg instrOf hc)) hi
  | _ => exact ⟨_, _, fun _ => rfl⟩

/-! ## A word that is no command (R184) -/

theorem perform_illegal {s : State} {c : Illegal} (h : decode s.txn.cmd = .illegal c) :
    perform s = .next (illegalWord c s) := by
  rw [perform, h]

section
variable {s : State} {c : Illegal}

theorem illegalWord_of_fault (hf : s.fault = true) (c : Illegal) :
    illegalWord c s = { s with reply := statusReply s .faulted } := by
  rw [illegalWord, if_pos hf, refuseFaulted_eq]

theorem illegalWord_illegalOpcode (hf : s.fault = false) :
    illegalWord .illegalOpcode s = faulted s .illegalOpcode := by
  simp [illegalWord, hf, raiseFault_eq_faulted]

theorem illegalWord_of_wrongPort (hf : s.fault = false) (hc : c ≠ .illegalOpcode)
    (hp : legalPort (fieldsOf s.txn.cmd).opc s.port = false) : illegalWord c s = faulted s .wrongPort := by
  simp [illegalWord, hf, hc, hp, raiseFault_eq_faulted]

theorem illegalWord_of_legalPort (hf : s.fault = false) (hc : c ≠ .illegalOpcode)
    (hp : legalPort (fieldsOf s.txn.cmd).opc s.port = true) : illegalWord c s = faulted s (Illegal.cause c) := by
  simp [illegalWord, hf, hc, hp, raiseFault_eq_faulted]

end

/-- The opcodes of a port, as ranges (R191). -/
theorem legalPort_eq_false_iff {opc : BitVec 4} (hopc : opc.toNat < 12) (p : Port) : legalPort opc p = false ↔
    (3 ≤ opc.toNat ∧ opc.toNat ≤ 7 ∧ p = .p1) ∨ (8 ≤ opc.toNat ∧ opc.toNat ≤ 10 ∧ p = .p0) := by
  revert opc
  cases p <;> decide

/-- A word refused for anything but its opcode has an opcode that names a command (R84). -/
theorem toNat_opc_lt_of_decode {w : Word} {c : Illegal} (h : decode w = .illegal c) (hc : c ≠ .illegalOpcode) :
    (fieldsOf w).opc.toNat < 12 := by
  by_contra hopc
  have := (decodeFields_illegalOpcode (Nat.le_of_not_lt hopc)).symm.trans h
  exact hc (Decoded.illegal.inj this).symm

/-! ## Accepted transactions (R190) -/

section
variable {s t : State}

theorem Accepts.step_eq (ha : Accepts s t) : step s = perform t := by
  cases ha with
  | one presented => rw [step, presented]
  | both presented => rw [step, presented]

/-- Accepting a transaction writes what is presented and accepted, and the count of draws. -/
theorem Accepts.frame (ha : Accepts s t) :
    t = { s with inbox := t.inbox, port := t.port, txn := t.txn, reply := t.reply, draws := t.draws } := by
  cases ha with
  | one => rfl
  | both => unfold acceptBoth; split <;> rfl

/-- While the block is faulted a performed transaction writes its response alone, RDREG and malformed words included
(R183, R186). -/
theorem perform_of_fault (hf : s.fault = true) : ∃ reply, perform s = .next { s with reply := reply } := by
  cases hd : decode s.txn.cmd with
  | illegal c => exact ⟨_, by rw [perform_illegal hd, illegalWord_of_fault hf]⟩
  | command i =>
    rw [perform_command hd]
    by_cases hi : i = .rdreg
    · subst hi
      exact ⟨_, rfl⟩
    · obtain ⟨legal, rule, hexec⟩ := exec_eq_gated hi
      rw [hexec, gated_of_fault hf]
      exact ⟨_, rfl⟩

end

end Sys2Proof.Machine

namespace Sys2Proof
open Machine Safety

/-- Settles O7: the word is no command, and each clause is one outcome of the checks on such a word. -/
theorem malformedWordsFaultInOrder : Obligations.MalformedWordsFaultInOrder := by
  intro s s1 p t es c presented decoded hs1
  have hstep : step s = .next (illegalWord c s1) := by
    rw [hs1]
    exact (step_transaction presented).trans (perform_illegal decoded)
  obtain ⟨hfault, rfl, rfl⟩ : s1.fault = s.fault ∧ s1.txn = t ∧ s1.port = p := by
    rw [hs1]
    exact ⟨rfl, rfl, rfl⟩
  have wrong_iff (hc : c ≠ .illegalOpcode) := legalPort_eq_false_iff (toNat_opc_lt_of_decode decoded hc) s1.port
  rw [← hfault, ← toNat_opc_fieldsOf, hstep]
  refine ⟨fun hf => ?refused, fun hf hc => ?illegalOpcode, fun hf hc hwrong => ?wrongPort,
    fun hf hlegal => ⟨fun hc => ?reservedBits, fun hc => ?illegalRep⟩⟩
  case refused => rw [illegalWord_of_fault hf]
  case illegalOpcode => rw [hc, illegalWord_illegalOpcode hf]
  case wrongPort => rw [illegalWord_of_wrongPort hf hc ((wrong_iff hc).mpr hwrong)]
  case reservedBits | illegalRep =>
    have hne : c ≠ .illegalOpcode := by simp [hc]
    rw [← wrong_iff hne, Bool.not_eq_false] at hlegal
    rw [illegalWord_of_legalPort hf hne hlegal, hc, Illegal.cause]

/-- Settles O10: behind the gate, which every command but RDREG has, nothing is reached in a faulted block. -/
theorem faultedBlockRefusesEveryCommandButRdreg : Obligations.FaultedBlockRefusesEveryCommandButRdreg := by
  intro i s hi hf
  obtain ⟨legal, rule, hexec⟩ := exec_eq_gated hi
  rw [hexec, gated_of_fault hf]

/-- Settles O11: accepting a transaction keeps every register, and in a faulted block performing it writes the response
alone. -/
theorem aFaultedBlockStaysAsItIs : Obligations.AFaultedBlockStaysAsItIs := by
  intro s t hf presented hs
  obtain ⟨s1, accepted⟩ : ∃ s1, Accepts s s1 := by
    rcases presented with ⟨p, x, es, h⟩ | ⟨t0, t1, es, h⟩
    · exact ⟨_, .one h⟩
    · exact ⟨_, .both h⟩
  have frame := accepted.frame
  have hf1 : s1.fault = true := by rw [frame]; exact hf
  obtain ⟨reply, hperform⟩ := perform_of_fault hf1
  rw [accepted.step_eq, hperform] at hs
  cases hs
  rw [frame]

/-- Settles O12: the gates of the eight commands let one port through each. -/
theorem commandsOnTheWrongPortFault : Obligations.CommandsOnTheWrongPortFault := by
  intro s hf
  constructor
  · intro hp
    have onP1 := gated_callbackPort_of_p1 hf hp
    exact ⟨onP1 _, onP1 _, onP1 _, fun r => ⟨(exec_get r s).trans (onP1 _), (exec_set r s).trans (onP1 _)⟩⟩
  · intro hp
    have onP0 := gated_lifecyclePort_of_p0 hf hp
    exact ⟨onP0 _, onP0 _, onP0 _⟩

/-- Settles O8: the draw says which of the two is accepted, with the other presented next. -/
theorem simultaneousTransactionsAreSerialized : Obligations.SimultaneousTransactionsAreSerialized := by
  intro s t0 t1 es presented
  have hstep := (Accepts.both presented).step_eq
  unfold acceptBoth at hstep
  split at hstep
  case isTrue => exact .inl (hstep.trans (Eq.symm (step_transaction rfl)))
  case isFalse => exact .inr (hstep.trans (Eq.symm (step_transaction rfl)))

/-- Settles O9: the record and the response are those of `faulted`, and the codes are the table's. -/
theorem raisingAFaultWritesOnlyTheRecord : Obligations.RaisingAFaultWritesOnlyTheRecord :=
  ⟨fun c s => raiseFault_eq_faulted c s, by decide⟩

end Sys2Proof
end

section
/-!
PROOFS. A reset abandons a stuck command (70_reset_and_hazards.md R200, R215): it is the one way a transaction leaves
the list without a response, and since no step takes back the count of such commands, the run does not end well.
-/

namespace Sys2Proof.Machine
open Sys2Proof.Safety

/-! ## Every command that completes responds (R72) -/

/-- Where the rule completes, it leaves a response. -/
def Answers (rule : State → Host.Outcome State Fault Refusal) : Prop :=
  ∀ s t : State, rule s = .next t → t.reply ≠ none

section
variable {rule : State → Host.Outcome State Fault Refusal}

theorem answers_of_reply {next : State → State} (h : ∀ s, (next s).reply ≠ none) :
    Answers fun s => .next (next s) := by
  intro s t ht
  cases ht
  exact h s

/-- The checks of a command respond where they stop it (R181, R185). -/
theorem Answers.checked (h : Answers rule) (checks : State → List (Bool × Cause)) :
    Answers fun s => checked (checks s) rule s := by
  intro s t ht
  dsimp only at ht
  rcases checked_cases (checks s) rule s with ⟨-, he⟩ | ⟨-, c, -, -, -, he⟩ <;> rw [he] at ht
  · exact h s t ht
  · cases ht; exact Option.some_ne_none _

/-- The gate of a command responds where it stops it (R183, R191). -/
theorem Answers.gated (h : Answers rule) (legal : Port → Bool) : Answers (gated legal rule) := by
  intro s t ht
  rcases gated_cases legal rule s with ⟨-, he⟩ | ⟨-, -, he⟩ | ⟨-, -, he⟩ <;> rw [he] at ht
  · cases ht; exact Option.some_ne_none _
  · cases ht; exact Option.some_ne_none _
  · exact h s t ht

end

theorem cvtRule_answers (a b : Rep) : Answers (cvtRule a b) :=
  answers_of_reply fun _ => Option.some_ne_none _

theorem rawrdRule_answers (r : Rep) (be : Bool) : Answers (rawrdRule r be) :=
  answers_of_reply fun _ => Option.some_ne_none _

theorem rawwrRule_answers (r : Rep) (be : Bool) : Answers (rawwrRule r be) :=
  answers_of_reply fun _ => Option.some_ne_none _

theorem acquireRule_answers : Answers acquireRule := by
  intro s t h
  unfold acquireRule at h
  split at h
  case isTrue => cases h; exact Option.some_ne_none _
  case isFalse => split at h <;> cases h <;> exact Option.some_ne_none _

theorem getRule_answers (r : Rep) : Answers (getRule r) := by
  intro s t h
  obtain ⟨a, -, -, hnext⟩ := withWindow_next h
  cases hnext
  exact Option.some_ne_none _

theorem setRule_answers (r : Rep) : Answers (setRule r) := by
  intro s t h
  obtain ⟨a, -, -, hnext⟩ := withWindow_next h
  cases hnext
  exact Option.some_ne_none _

theorem commitRule_answers : Answers commitRule := by
  intro s t h
  unfold commitRule at h
  split at h <;> cases h <;> exact Option.some_ne_none _

theorem areaRule_answers : Answers areaRule := by
  intro s t h
  unfold areaRule at h
  split at h <;> cases h
  exact Option.some_ne_none _

theorem configureRule_answers : Answers configureRule := by
  intro s t h
  unfold configureRule at h
  split at h <;> cases h <;> exact Option.some_ne_none _

theorem invStartRule_answers : Answers invStartRule :=
  answers_of_reply fun _ => Option.some_ne_none _

theorem invEndRule_answers : Answers invEndRule :=
  answers_of_reply fun _ => Option.some_ne_none _

theorem execRdreg_answers : Answers execRdreg :=
  answers_of_reply fun _ => Option.some_ne_none _

/-- Every instruction that completes leaves a response. -/
theorem exec_answers (i : Instr) : Answers (exec i) := by
  intro s t h
  rw [exec_eq_command] at h
  cases hc : i.command with rw [hc] at h
  | cvt a b => exact (cvtRule_answers a b).gated _ s t h
  | rawrd r be => exact (rawrdRule_answers r be).gated _ s t h
  | rawwr r be => exact (rawwrRule_answers r be).gated _ s t h
  | acquire => exact (acquireRule_answers.checked _).gated _ s t h
  | get r => exact ((getRule_answers r).checked _).gated _ s t h
  | set r => exact ((setRule_answers r).checked _).gated _ s t h
  | commit => exact (commitRule_answers.checked _).gated _ s t h
  | area => exact (areaRule_answers.checked _).gated _ s t h
  | configure => exact (configureRule_answers.checked _).gated _ s t h
  | invStart => exact (invStartRule_answers.checked _).gated _ s t h
  | invEnd => exact (invEndRule_answers.checked _).gated _ s t h
  | rdreg => exact execRdreg_answers s t h

theorem illegalWord_answers (c : Illegal) (s : State) : (illegalWord c s).reply ≠ none := by
  rcases illegalWord_cases c s with ⟨-, he⟩ | ⟨-, cause, he⟩ <;> rw [he] <;> exact Option.some_ne_none _

/-! ## The count of abandoned commands (R215) -/

@[simp] theorem acquired_abandoned (g : Grant) (a : Nat) (s : State) : (acquired g a s).abandoned = s.abandoned := by
  rcases acquired_cases g a s with ⟨-, he⟩ | ⟨-, he⟩ <;> simp [he]

@[simp] theorem implicitCommit_abandoned (s : State) : (implicitCommit s).abandoned = s.abandoned := by
  rcases implicitCommit_cases s with ⟨-, he⟩ | ⟨-, -, he⟩ | ⟨-, -, he⟩ <;> simp [he]

@[simp] theorem illegalWord_abandoned (c : Illegal) (s : State) : (illegalWord c s).abandoned = s.abandoned := by
  rcases illegalWord_cases c s with ⟨-, he⟩ | ⟨-, cause, he⟩ <;> simp [he]

section
variable {s t : State}

theorem Effect.abandoned {c : Command} (h : Effect s c t) : t.abandoned = s.abandoned := by
  cases h <;> simp

/-- A performed transaction either has its response, or is the stuck command of R200 and counted. -/
theorem perform_answers_or_abandons (h : perform s = .next t) :
    (t.reply ≠ none ∧ t.abandoned = s.abandoned) ∨ (t.reply = none ∧ t.abandoned = s.abandoned + 1) := by
  cases hd : decode s.txn.cmd with
  | illegal c =>
    cases (perform_illegal hd).symm.trans h
    exact .inl ⟨illegalWord_answers c s, illegalWord_abandoned c s⟩
  | command i =>
    rw [perform_command hd] at h
    rcases orAbandoned_cases s (exec i s) with ⟨f, -, ⟨-, ho⟩ | ⟨before, after, -, -, ho⟩⟩ | ⟨-, ho⟩
      <;> rw [ho] at h
    · cases h
    · cases h; exact .inr ⟨rfl, rfl⟩
    · exact .inl ⟨exec_answers i s t h, (exec_effect h).abandoned⟩

theorem step_abandoned_le (h : step s = .next t) : s.abandoned ≤ t.abandoned := by
  rcases step_next h with ⟨-, rfl⟩ | ⟨es, -, rfl⟩ | ⟨admits, writes, es, -, rfl⟩ | ⟨s1, ha, hp⟩
  · exact le_rfl
  · exact le_rfl
  · exact le_rfl
  · have accepted : s1.abandoned = s.abandoned := by rw [ha.frame]
    rcases perform_answers_or_abandons hp with ⟨-, hcount⟩ | ⟨-, hcount⟩ <;> omega

theorem run_abandoned_le {k : Nat} (h : Host.Core.run Sys2Proof.core k s = .next t) : s.abandoned ≤ t.abandoned :=
  run_rel (R := fun s t => s.abandoned ≤ t.abandoned) (fun _ => le_rfl) le_trans step_abandoned_le h

end

/-! ## Taking the reset event (R200) -/

theorem takeReset_append_reset {es : List Event} (h : Event.reset ∉ es) (fs : List Event) :
    takeReset (es ++ .reset :: fs) = some (es ++ fs) := by
  induction es with
  | nil => rfl
  | cons e es ih =>
    obtain ⟨hne, hes⟩ : Event.reset ≠ e ∧ Event.reset ∉ es := by simpa using h
    cases e with
    | reset => exact absurd rfl hne
    | _ => simp [takeReset, ih hes]

theorem orAbandoned_fault_reset {s : State} {es fs : List Event} (f : Fault) (hin : s.inbox = es ++ .reset :: fs)
    (h : Event.reset ∉ es) : orAbandoned s (.fault f) =
      .next (resetBlock { s with inbox := es ++ fs, abandoned := s.abandoned + 1 }) := by
  rw [orAbandoned, hin, takeReset_append_reset h]

end Sys2Proof.Machine

namespace Sys2Proof
open Machine Safety

/-- Settles O6: the stuck command ends in the reset event and raises the count, which no later step lowers; any other
command that completes, and any word that is no command, leaves a response. -/
theorem resetAbandonsAStuckCommand : Obligations.ResetAbandonsAStuckCommand := by
  constructor
  · rintro s s1 t p x es fs i f presented no_reset decoded rfl stuck rfl
    refine ⟨?_, rfl, fun k u run ended => ?_⟩
    · calc step s = orAbandoned (accept p x (es ++ .reset :: fs) s) (exec i (accept p x (es ++ .reset :: fs) s)) :=
            (step_transaction presented).trans (perform_command decoded)
        _ = orAbandoned (accept p x (es ++ .reset :: fs) s) (.fault f) := congrArg _ stuck
        _ = _ := orAbandoned_fault_reset f rfl no_reset
    · obtain ⟨-, count, -⟩ := ended
      have counted : s.abandoned + 1 ≤ u.abandoned := run_abandoned_le run
      omega
  · intro s t p x es presented hs
    rw [step_transaction presented] at hs
    have counted := perform_answers_or_abandons hs
    rwa [accept_abandoned] at counted

end Sys2Proof
end
